-- ==== Sys2Proof/Word.lean ====
section
/-! DEFINITION. Word types of the Tube ULA model: the byte every bus transaction carries (spec R65) and the
3-bit address selector (spec R80). -/

namespace Sys2Proof

/-- A byte: 8 bits (R11). The only access width of the block is one byte (R65). -/
abbrev Byte := BitVec 8

/-- The address selector, values 0 to 7 (R80): bit 0 is status (0) or data (1), bits 2..1 the channel minus 1. -/
abbrev Selector := BitVec 3

/-- The seven stored control flags, or a mask over them (R35, R88): bit 0 = Q up to bit 6 = T. -/
abbrev ControlBits := BitVec 7

end Sys2Proof
end

