-- ==== Sys2Proof/Config.lean ====
section
/-! DEFINITION. What an implementation of the block fixes (spec R7): the types of the catalog and configuration
records (R190), the parameters a machine is built with, and the OPEN parameters, which are opaque constants with no
body, so that nothing can be proved about their values. -/

namespace Sys2Proof.Config

/-- A catalog entry (R190): "name, initializer capability, reset capability, debug-introspection capability". A
capability is a call out of the block into a CPU emulator, which is outside the spec (R4), so it is held here as an
opaque handle number; a CPU type may have no debug entry points (`93_implementation_defined.md` U24). -/
structure CpuTypeDescriptor where
  name : String
  initializer : Nat
  reset : Nat
  debug : Option Nat
deriving DecidableEq, Repr

/-- The descriptor held in `CPU` before anything was attached. DESIGN CHOICE (log 6): no rule reads it while detached. -/
def CpuTypeDescriptor.blank : CpuTypeDescriptor := ⟨"", 0, 0, none⟩

/-- A tube configuration (R190). `cpu = none` is the *unusable* entry, whose CPU-type name did not resolve. -/
structure TubeConfiguration where
  name : String
  cpu : Option CpuTypeDescriptor
  /-- Expected boot-ROM byte size; 0 = determine from file. -/
  romsize : Nat
  /-- Boot-ROM identifier; empty = none needed. -/
  bootrom : String
  /-- Base speed multiplier. -/
  speed : Nat
deriving DecidableEq, Repr

/-- The implementation parameters of R7 that the rules of the block read, plus `HOLD_STOPS_PARASITE`, which only the
environment's contract reads (R264). They are fixed for a machine: no operation writes them, and every statement about
all states holds for all their values. -/
structure Params where
  /-- `N`, the capacity of the channel-1 parasite-to-host FIFO (R7, decision D1). -/
  fifoDepth : Nat
  /-- `IDLE`, what every register read returns while no coprocessor is attached (R7, decision D14). -/
  idle : Byte
  /-- `CATALOG`, the static table of CPU types (R43, decision D29), looked up by exact name (N22). -/
  catalog : List CpuTypeDescriptor
  /-- `DEFAULT_CONFIGS`, the built-in list of tube configurations (R192, decision D29). -/
  defaultConfigs : List TubeConfiguration
  /-- `HOLD_STOPS_PARASITE` (R264, decision D23). -/
  holdStopsParasite : Bool
deriving DecidableEq, Repr

/-- `CATALOG` of a machine nobody configured otherwise: OPEN (R7, N19), a free value. -/
opaque catalog : List CpuTypeDescriptor

/-- `DEFAULT_CONFIGS` of such a machine: OPEN (R7, N19), a free value. -/
opaque defaultConfigs : List TubeConfiguration

/-- `HOLD_STOPS_PARASITE` of such a machine: OPEN (R7, D23), a free value. -/
opaque holdStopsParasite : Bool

/-- `HOST_BASE`: where the eight addresses start in the host CPU's own address map; OPEN (R62, D25). -/
opaque hostBase : Nat

/-- `PAR_BASE`: where they start in the parasite CPU's own address map; OPEN (R62, D25). -/
opaque parBase : Nat

/-- The counters of the persisted state that the legacy layout stores in narrower fields (R224). -/
inductive LegacyCounter where
  | ph1Head | ph1Tail | ph1Count | ph3Occ | hp3Occ
deriving DecidableEq, Repr

/-- The field widths, in bits, of the legacy layout's counters: not in the source (N14, R224), free values. -/
opaque legacyWidth : LegacyCounter → Nat

/-- The parameters of a machine nobody configured otherwise: the spec's defaults `N = 24` and `IDLE = 0xFE`
(R7, D1, D14), the rest free. DESIGN CHOICE (log 1). -/
def Params.defaults : Params where
  fifoDepth := 24
  idle := 0xFE#8
  catalog := Config.catalog
  defaultConfigs := Config.defaultConfigs
  holdStopsParasite := Config.holdStopsParasite

end Sys2Proof.Config
end

