-- ==== Sys2Proof/Syntax.lean ====
section
/-! DEFINITION. The operations of the block (spec R5): one constructor of `Instr` for each of the 41 rows of
`spec/opcode_table.json`, and the packets in which the three agents present them (R81, R82). The block executes no
instructions of its own: an "instruction" is a bus transaction or a management event. -/

namespace Sys2Proof

open Sys2Proof.Config

/-- The side that performs a bus transaction (R14, R81 bit 12). -/
inductive Side where
  | host | parasite
deriving DecidableEq, Repr

/-- The direction of a bus transaction (R81 bit 11). -/
inductive Direction where
  | read | write
deriving DecidableEq, Repr

/-- One tube section of the configuration source (R10, R192): a name and the keys `cpu`, `romsize`, `bootrom`,
`speed`; `none` is an absent key (or, for `name`, the missing name of U21). Turning the file's text into these values
is configuration-file loading, which R4 leaves out. -/
structure ConfigSection where
  name : Option String
  cpu : Option String
  romsize : Option Nat
  bootrom : Option String
  speed : Option Nat
deriving DecidableEq, Repr

/-- The environment's answer to the boot-image request of the selected configuration (R194). -/
inductive FsAnswer where
  | noneNeeded
  | bytes (image : List Byte)
  | failed
deriving DecidableEq, Repr

/-- The operations of the block, one constructor per row of the opcode table (R93), in the table's order. A write
carries the byte written; the two control writes carry the seven low bits of the control byte, whose bit 7 is the mode
flag that tells them apart (R87). A read's ignored data bits (R81) are no operand. -/
inductive Instr where
  | hrS1
  | hrD1
  | hrS2
  | hrD2
  | hrS3
  | hrD3
  | hrS4
  | hrD4
  | hwCtlSet (m : ControlBits)
  | hwCtlClr (m : ControlBits)
  | hwD1 (v : Byte)
  | hwS2 (v : Byte)
  | hwD2 (v : Byte)
  | hwS3 (v : Byte)
  | hwD3 (v : Byte)
  | hwS4 (v : Byte)
  | hwD4 (v : Byte)
  | prS1
  | prD1
  | prS2
  | prD2
  | prS3
  | prD3
  | prS4
  | prD4
  | pwS1 (v : Byte)
  | pwD1 (v : Byte)
  | pwS2 (v : Byte)
  | pwD2 (v : Byte)
  | pwS3 (v : Byte)
  | pwD3 (v : Byte)
  | pwS4 (v : Byte)
  | pwD4 (v : Byte)
  | hreset
  | loadcfg (source : List ConfigSection)
  | findcpu (name : String)
  | select (index : Option Int)
  | attach (fs : FsAnswer) (initOk : Bool)
  | speed (preset : Nat)
  | save
  | load (tag aux : Byte) (block : List Byte)
deriving DecidableEq, Repr

/-- The operands that "travel beside the code" of a management event (R82), one form per event. -/
inductive Operands where
  /-- HRESET and SAVE have none. -/
  | nothing
  | source (sections : List ConfigSection)
  | name (name : String)
  | index (index : Option Int)
  | answers (fs : FsAnswer) (initOk : Bool)
  | preset (preset : Nat)
  | saved (tag aux : Byte) (block : List Byte)
deriving DecidableEq, Repr

/-- One operation as an agent presents it to the block. -/
inductive Packet where
  /-- A BUS13 transaction word (R81). -/
  | bus (word : BitVec 13)
  /-- A MGMT4 event code (R82) with the operands beside it. -/
  | mgmt (code : BitVec 4) (operands : Operands)
  /-- An access as a platform could attempt it, before it is known to be one of the block's: at any address and of any
  width in bytes. Only one-byte accesses to addresses 0 to 7 are operations (R65, U12). -/
  | access (side : Side) (direction : Direction) (address nbytes : Nat) (value : Byte)
  /-- A word that fits neither format: its value does not fit in 13 (or, given as one byte, in 4) bits. -/
  | foreign (nbits word : Nat)
deriving DecidableEq, Repr

end Sys2Proof
end

