-- ==== Sys2Proof/WellFormed.lean ====
section
/-! DEFINITION. Which operations are well formed, and which parameters a machine may be built with. Every bus
transaction is (R89: no encoding is illegal); of the management events only LOADCFG has a static check: each section
must carry `speed` (`93_implementation_defined.md` U28). -/

namespace Sys2Proof

open Sys2Proof.Config

/-- A configuration section LOADCFG accepts: the `speed` key is present (U28, N20). -/
def ConfigSection.wellFormed (s : ConfigSection) : Bool := s.speed.isSome

/-- The static check of an operation, one arm per constructor. -/
def Instr.wellFormed : Instr → Bool
  | .hrS1 => true
  | .hrD1 => true
  | .hrS2 => true
  | .hrD2 => true
  | .hrS3 => true
  | .hrD3 => true
  | .hrS4 => true
  | .hrD4 => true
  | .hwCtlSet _ => true
  | .hwCtlClr _ => true
  | .hwD1 _ => true
  | .hwS2 _ => true
  | .hwD2 _ => true
  | .hwS3 _ => true
  | .hwD3 _ => true
  | .hwS4 _ => true
  | .hwD4 _ => true
  | .prS1 => true
  | .prD1 => true
  | .prS2 => true
  | .prD2 => true
  | .prS3 => true
  | .prD3 => true
  | .prS4 => true
  | .prD4 => true
  | .pwS1 _ => true
  | .pwD1 _ => true
  | .pwS2 _ => true
  | .pwD2 _ => true
  | .pwS3 _ => true
  | .pwD3 _ => true
  | .pwS4 _ => true
  | .pwD4 _ => true
  | .hreset => true
  | .loadcfg source => source.all ConfigSection.wellFormed
  | .findcpu _ => true
  | .select _ => true
  | .attach _ _ => true
  | .speed _ => true
  | .save => true
  | .load _ _ _ => true

/-- The constraint R7 puts on the parameters: `N >= 1`. -/
def Config.Params.wellFormed (p : Params) : Bool := 1 ≤ p.fifoDepth

end Sys2Proof
end

