-- ==== Sys2Proof/Decode.lean ====
section
/-! DEFINITION. From presented packets to operations and back (spec R80 to R93). BUS13 words and MGMT4 codes are the
spec's own naming devices (D17); the 3-bit selector in them is the hardware's. The decoder is total and rejects by
name; the encoder is written from the same tables. -/

namespace Sys2Proof

/-- Why a presented packet is no operation of the block. Each is a refusal of the model, never a trap of the hardware
(R89); all are safe. -/
inductive DecodeError where
  /-- MGMT4 codes 8 to 15: "not an operation; a model refuses them" (R82). -/
  | unassignedCode (code : BitVec 4)
  /-- An event code presented with another event's operands: no event of R82's table. -/
  | wrongOperands (code : BitVec 4)
  /-- An access of a width other than one byte (R65, D28, U12). -/
  | wideAccess (nbytes : Nat)
  /-- An access to an address outside 0 to 7 (U12). -/
  | noSuchAddress (address : Nat)
  /-- A word that fits neither BUS13 nor MGMT4 (R81, R82). -/
  | noFormat (nbits word : Nat)
deriving DecidableEq, Repr

/-- The byte field `v` of a BUS13 word, bits 7..0 (R81). -/
def wordByte (w : BitVec 13) : Byte := w.extractLsb' 0 8

/-- The seven flag bits of a control byte, `m = v[6:0]` (R88), in a BUS13 word. -/
def wordFlags (w : BitVec 13) : ControlBits := w.extractLsb' 0 7

/-- The operation a BUS13 word names: the arms are the bits w[12], w[11], w[10], w[9], w[8], that is side, direction
and selector (R81, R93). Every word is an operation (R89); the host write of address 0 is two operations, by the mode
flag in bit 7 (R87). -/
def decodeBus (w : BitVec 13) : Instr :=
  match w.getLsbD 12, w.getLsbD 11, w.getLsbD 10, w.getLsbD 9, w.getLsbD 8 with
  | false, false, false, false, false => .hrS1
  | false, false, false, false, true => .hrD1
  | false, false, false, true, false => .hrS2
  | false, false, false, true, true => .hrD2
  | false, false, true, false, false => .hrS3
  | false, false, true, false, true => .hrD3
  | false, false, true, true, false => .hrS4
  | false, false, true, true, true => .hrD4
  | false, true, false, false, false => if w.getLsbD 7 then .hwCtlSet (wordFlags w) else .hwCtlClr (wordFlags w)
  | false, true, false, false, true => .hwD1 (wordByte w)
  | false, true, false, true, false => .hwS2 (wordByte w)
  | false, true, false, true, true => .hwD2 (wordByte w)
  | false, true, true, false, false => .hwS3 (wordByte w)
  | false, true, true, false, true => .hwD3 (wordByte w)
  | false, true, true, true, false => .hwS4 (wordByte w)
  | false, true, true, true, true => .hwD4 (wordByte w)
  | true, false, false, false, false => .prS1
  | true, false, false, false, true => .prD1
  | true, false, false, true, false => .prS2
  | true, false, false, true, true => .prD2
  | true, false, true, false, false => .prS3
  | true, false, true, false, true => .prD3
  | true, false, true, true, false => .prS4
  | true, false, true, true, true => .prD4
  | true, true, false, false, false => .pwS1 (wordByte w)
  | true, true, false, false, true => .pwD1 (wordByte w)
  | true, true, false, true, false => .pwS2 (wordByte w)
  | true, true, false, true, true => .pwD2 (wordByte w)
  | true, true, true, false, false => .pwS3 (wordByte w)
  | true, true, true, false, true => .pwD3 (wordByte w)
  | true, true, true, true, false => .pwS4 (wordByte w)
  | true, true, true, true, true => .pwD4 (wordByte w)

/-- The event a MGMT4 code and its operands name (R82). -/
def decodeMgmt (code : BitVec 4) (ops : Operands) : Except DecodeError Instr :=
  match code.toNat with
  | 0 => match ops with | .nothing => .ok .hreset | _ => .error (.wrongOperands code)
  | 1 => match ops with | .source sections => .ok (.loadcfg sections) | _ => .error (.wrongOperands code)
  | 2 => match ops with | .name name => .ok (.findcpu name) | _ => .error (.wrongOperands code)
  | 3 => match ops with | .index index => .ok (.select index) | _ => .error (.wrongOperands code)
  | 4 => match ops with | .answers fs initOk => .ok (.attach fs initOk) | _ => .error (.wrongOperands code)
  | 5 => match ops with | .preset preset => .ok (.speed preset) | _ => .error (.wrongOperands code)
  | 6 => match ops with | .nothing => .ok .save | _ => .error (.wrongOperands code)
  | 7 => match ops with | .saved tag aux block => .ok (.load tag aux block) | _ => .error (.wrongOperands code)
  | _ => .error (.unassignedCode code)

/-- A BUS13 word from its four fields (R81). -/
def busWord (parasite write : Bool) (a : Selector) (v : Byte) : BitVec 13 :=
  BitVec.ofBool parasite ++ BitVec.ofBool write ++ a ++ v

/-- The control byte with mode flag `set` in bit 7 and the flag bits `m` below it (R87). -/
def controlByte (set : Bool) (m : ControlBits) : Byte := BitVec.ofBool set ++ m

/-- The operation a packet names. An access is one exactly when it is one byte wide and its address is 0 to 7
(R65, U12); then it is the BUS13 word of the same fields. -/
def decode : Packet → Except DecodeError Instr
  | .bus w => .ok (decodeBus w)
  | .mgmt code ops => decodeMgmt code ops
  | .access side direction address nbytes value =>
    if nbytes = 1 then
      if address < 8 then
        .ok (decodeBus (busWord (side == .parasite) (direction == .write) (BitVec.ofNat 3 address) value))
      else .error (.noSuchAddress address)
    else .error (.wideAccess nbytes)
  | .foreign nbits word => .error (.noFormat nbits word)

/-- The packet of an operation: its BUS13 word, with the ignored data bits of a read written as 0 (R81), or its MGMT4
code with its operands (R82). -/
def encode : Instr → Packet
  | .hrS1 => .bus (busWord false false 0#3 0#8)
  | .hrD1 => .bus (busWord false false 1#3 0#8)
  | .hrS2 => .bus (busWord false false 2#3 0#8)
  | .hrD2 => .bus (busWord false false 3#3 0#8)
  | .hrS3 => .bus (busWord false false 4#3 0#8)
  | .hrD3 => .bus (busWord false false 5#3 0#8)
  | .hrS4 => .bus (busWord false false 6#3 0#8)
  | .hrD4 => .bus (busWord false false 7#3 0#8)
  | .hwCtlSet m => .bus (busWord false true 0#3 (controlByte true m))
  | .hwCtlClr m => .bus (busWord false true 0#3 (controlByte false m))
  | .hwD1 v => .bus (busWord false true 1#3 v)
  | .hwS2 v => .bus (busWord false true 2#3 v)
  | .hwD2 v => .bus (busWord false true 3#3 v)
  | .hwS3 v => .bus (busWord false true 4#3 v)
  | .hwD3 v => .bus (busWord false true 5#3 v)
  | .hwS4 v => .bus (busWord false true 6#3 v)
  | .hwD4 v => .bus (busWord false true 7#3 v)
  | .prS1 => .bus (busWord true false 0#3 0#8)
  | .prD1 => .bus (busWord true false 1#3 0#8)
  | .prS2 => .bus (busWord true false 2#3 0#8)
  | .prD2 => .bus (busWord true false 3#3 0#8)
  | .prS3 => .bus (busWord true false 4#3 0#8)
  | .prD3 => .bus (busWord true false 5#3 0#8)
  | .prS4 => .bus (busWord true false 6#3 0#8)
  | .prD4 => .bus (busWord true false 7#3 0#8)
  | .pwS1 v => .bus (busWord true true 0#3 v)
  | .pwD1 v => .bus (busWord true true 1#3 v)
  | .pwS2 v => .bus (busWord true true 2#3 v)
  | .pwD2 v => .bus (busWord true true 3#3 v)
  | .pwS3 v => .bus (busWord true true 4#3 v)
  | .pwD3 v => .bus (busWord true true 5#3 v)
  | .pwS4 v => .bus (busWord true true 6#3 v)
  | .pwD4 v => .bus (busWord true true 7#3 v)
  | .hreset => .mgmt 0#4 .nothing
  | .loadcfg source => .mgmt 1#4 (.source source)
  | .findcpu name => .mgmt 2#4 (.name name)
  | .select index => .mgmt 3#4 (.index index)
  | .attach fs initOk => .mgmt 4#4 (.answers fs initOk)
  | .speed preset => .mgmt 5#4 (.preset preset)
  | .save => .mgmt 6#4 .nothing
  | .load tag aux block => .mgmt 7#4 (.saved tag aux block)

/-- The mnemonic of an operation, as `spec/opcode_table.json` spells it. -/
def Instr.mnemonic : Instr → String
  | .hrS1 => "HR.S1"
  | .hrD1 => "HR.D1"
  | .hrS2 => "HR.S2"
  | .hrD2 => "HR.D2"
  | .hrS3 => "HR.S3"
  | .hrD3 => "HR.D3"
  | .hrS4 => "HR.S4"
  | .hrD4 => "HR.D4"
  | .hwCtlSet _ => "HW.CTL.SET"
  | .hwCtlClr _ => "HW.CTL.CLR"
  | .hwD1 _ => "HW.D1"
  | .hwS2 _ => "HW.S2"
  | .hwD2 _ => "HW.D2"
  | .hwS3 _ => "HW.S3"
  | .hwD3 _ => "HW.D3"
  | .hwS4 _ => "HW.S4"
  | .hwD4 _ => "HW.D4"
  | .prS1 => "PR.S1"
  | .prD1 => "PR.D1"
  | .prS2 => "PR.S2"
  | .prD2 => "PR.D2"
  | .prS3 => "PR.S3"
  | .prD3 => "PR.D3"
  | .prS4 => "PR.S4"
  | .prD4 => "PR.D4"
  | .pwS1 _ => "PW.S1"
  | .pwD1 _ => "PW.D1"
  | .pwS2 _ => "PW.S2"
  | .pwD2 _ => "PW.D2"
  | .pwS3 _ => "PW.S3"
  | .pwD3 _ => "PW.D3"
  | .pwS4 _ => "PW.S4"
  | .pwD4 _ => "PW.D4"
  | .hreset => "HRESET"
  | .loadcfg _ => "LOADCFG"
  | .findcpu _ => "FINDCPU"
  | .select _ => "SELECT"
  | .attach _ _ => "ATTACH"
  | .speed _ => "SPEED"
  | .save => "SAVE"
  | .load _ _ _ => "LOAD"

/-- A BUS13 row of the opcode table: the word `w` is an operation of the row iff `w & mask = bits` (R93). -/
structure OpcodeRow where
  mnemonic : String
  mask : BitVec 13
  bits : BitVec 13
deriving DecidableEq, Repr

/-- Whether a word is of a row. -/
def OpcodeRow.covers (r : OpcodeRow) (w : BitVec 13) : Bool := w &&& r.mask == r.bits

/-- The 33 BUS13 rows of the opcode table (R93), as data. The decoder does not read it: that the two agree is a
statement. -/
def opcodeRows : List OpcodeRow := [
  ⟨"HR.S1", 0x1F00#13, 0x0000#13⟩,
  ⟨"HR.D1", 0x1F00#13, 0x0100#13⟩,
  ⟨"HR.S2", 0x1F00#13, 0x0200#13⟩,
  ⟨"HR.D2", 0x1F00#13, 0x0300#13⟩,
  ⟨"HR.S3", 0x1F00#13, 0x0400#13⟩,
  ⟨"HR.D3", 0x1F00#13, 0x0500#13⟩,
  ⟨"HR.S4", 0x1F00#13, 0x0600#13⟩,
  ⟨"HR.D4", 0x1F00#13, 0x0700#13⟩,
  ⟨"HW.CTL.SET", 0x1F80#13, 0x0880#13⟩,
  ⟨"HW.CTL.CLR", 0x1F80#13, 0x0800#13⟩,
  ⟨"HW.D1", 0x1F00#13, 0x0900#13⟩,
  ⟨"HW.S2", 0x1F00#13, 0x0A00#13⟩,
  ⟨"HW.D2", 0x1F00#13, 0x0B00#13⟩,
  ⟨"HW.S3", 0x1F00#13, 0x0C00#13⟩,
  ⟨"HW.D3", 0x1F00#13, 0x0D00#13⟩,
  ⟨"HW.S4", 0x1F00#13, 0x0E00#13⟩,
  ⟨"HW.D4", 0x1F00#13, 0x0F00#13⟩,
  ⟨"PR.S1", 0x1F00#13, 0x1000#13⟩,
  ⟨"PR.D1", 0x1F00#13, 0x1100#13⟩,
  ⟨"PR.S2", 0x1F00#13, 0x1200#13⟩,
  ⟨"PR.D2", 0x1F00#13, 0x1300#13⟩,
  ⟨"PR.S3", 0x1F00#13, 0x1400#13⟩,
  ⟨"PR.D3", 0x1F00#13, 0x1500#13⟩,
  ⟨"PR.S4", 0x1F00#13, 0x1600#13⟩,
  ⟨"PR.D4", 0x1F00#13, 0x1700#13⟩,
  ⟨"PW.S1", 0x1F00#13, 0x1800#13⟩,
  ⟨"PW.D1", 0x1F00#13, 0x1900#13⟩,
  ⟨"PW.S2", 0x1F00#13, 0x1A00#13⟩,
  ⟨"PW.D2", 0x1F00#13, 0x1B00#13⟩,
  ⟨"PW.S3", 0x1F00#13, 0x1C00#13⟩,
  ⟨"PW.D3", 0x1F00#13, 0x1D00#13⟩,
  ⟨"PW.S4", 0x1F00#13, 0x1E00#13⟩,
  ⟨"PW.D4", 0x1F00#13, 0x1F00#13⟩]

/-- The operands of zeros: what stands beside a management event's code when only the code is given. -/
def zeroOperands (code : BitVec 4) : Operands :=
  match code.toNat with
  | 1 => .source []
  | 2 => .name ""
  | 3 => .index (some 0)
  | 4 => .answers .noneNeeded false
  | 5 => .preset 0
  | 7 => .saved 0#8 0#8 []
  | _ => .nothing

/-- The packet that stands for a table row's bits: a row of up to 8 bits is a MGMT4 code with operands of zeros, a row
of 9 to 16 bits a BUS13 word. -/
def packetOfWord (nbits w : Nat) : Packet :=
  if nbits ≤ 8 then
    if w < 16 then .mgmt (BitVec.ofNat 4 w) (zeroOperands (BitVec.ofNat 4 w)) else .foreign nbits w
  else if nbits ≤ 16 then
    if w < 8192 then .bus (BitVec.ofNat 13 w) else .foreign nbits w
  else .foreign nbits w

/-- The operation the decoder reads from a table row's bits, none where it refuses. -/
def decodeTableWord (nbits w : Nat) : Option Instr :=
  match decode (packetOfWord nbits w) with
  | .ok i => some i
  | .error _ => none

end Sys2Proof
end

