-- ==== Sys2Proof/Machine/Ula.lean ====
section
/-! DEFINITION. The live register file of the block, the source's "TubeULAState" (spec R20 to R39), as plain data, and
the legacy form in which an old save file holds it (R224). Everything SAVE and LOAD carry is here and nothing else
(R220). -/

namespace Sys2Proof.Machine

open Sys2Proof.Config

/-- One status flag for each of the four channels (R31): `H_DA`, `H_SA`, `P_DA` and `P_SA` are four of these. -/
structure ChannelFlags where
  c1 : Bool
  c2 : Bool
  c3 : Bool
  c4 : Bool
deriving DecidableEq, Repr

/-- The channel-1 parasite-to-host FIFO (R22): a circular buffer with head, tail and count. -/
structure Fifo where
  bytes : List Byte
  head : Nat
  tail : Nat
  count : Nat
deriving DecidableEq, Repr

/-- A channel-3 shift buffer (R27): two slots, slot 0 read next, and the occupancy 0, 1 or 2. -/
structure ShiftBuffer where
  slot0 : Byte
  slot1 : Byte
  occ : Nat
deriving DecidableEq, Repr

/-- The ULA state (R20): eight data paths, two fallback latches, sixteen status flags, the control register and the
three cached interrupt lines. -/
structure Ula where
  /-- PH1, the FIFO parasite to host (R22). -/
  ph1 : Fifo
  /-- HP1, the channel-1 latch host to parasite (R25). -/
  hp1 : Byte
  /-- PH2 (R26). -/
  ph2 : Byte
  /-- HP2 (R26). -/
  hp2 : Byte
  /-- PH3, the shift buffer parasite to host (R27). -/
  ph3 : ShiftBuffer
  /-- HP3, the shift buffer host to parasite (R27). -/
  hp3 : ShiftBuffer
  /-- PH4 (R29). -/
  ph4 : Byte
  /-- HP4 (R29). -/
  hp4 : Byte
  /-- H_DA: data available to the host (R31). -/
  hDA : ChannelFlags
  /-- H_SA: space available to the host (R31). -/
  hSA : ChannelFlags
  /-- P_DA: data available to the parasite (R31). -/
  pDA : ChannelFlags
  /-- P_SA: space available to the parasite (R31). -/
  pSA : ChannelFlags
  /-- HFL, the host-side fallback latch (R30). -/
  hfl : Byte
  /-- PFL, the parasite-side fallback latch (R30). -/
  pfl : Byte
  /-- CR, the control register (R35). -/
  cr : ControlBits
  /-- HIRQ, the cached host IRQ line (R39). -/
  hirq : Bool
  /-- PIRQ, the cached parasite IRQ line (R39). -/
  pirq : Bool
  /-- PNMI, the cached parasite NMI line (R39). -/
  pnmi : Bool
deriving DecidableEq, Repr

/-- The type constraints of `10_state.md` for a FIFO of capacity `n` ("indices below N, count <= N, occupancies <= 2",
`93_implementation_defined.md` U18; R22, R23, R28). They say nothing of the flags. -/
abbrev Ula.WellTyped (n : Nat) (u : Ula) : Prop :=
  u.ph1.bytes.length = n ∧ u.ph1.head < n ∧ u.ph1.tail < n ∧ u.ph1.count ≤ n ∧ u.ph3.occ ≤ 2 ∧ u.hp3.occ ≤ 2

/-- The register state after a hard reset (the table of R47), for capacity `n`. -/
def Ula.fresh (n : Nat) : Ula where
  ph1 := ⟨List.replicate n 0#8, 0, 0, 0⟩
  hp1 := 0#8
  ph2 := 0#8
  hp2 := 0#8
  ph3 := ⟨0#8, 0#8, 0⟩
  hp3 := ⟨0#8, 0#8, 0⟩
  ph4 := 0#8
  hp4 := 0#8
  hDA := ⟨false, false, false, false⟩
  hSA := ⟨true, true, true, true⟩
  pDA := ⟨false, false, false, false⟩
  pSA := ⟨true, true, true, true⟩
  hfl := 0#8
  pfl := 0#8
  cr := 0#7
  hirq := false
  pirq := false
  pnmi := false

/-- The ULA state as a legacy block holds it (R224): the same fields in the same order, the counters in narrower fields
of widths the source does not give (N14). -/
structure LegacyUla where
  ph1Bytes : List Byte
  ph1Head : BitVec (legacyWidth .ph1Head)
  ph1Tail : BitVec (legacyWidth .ph1Tail)
  ph1Count : BitVec (legacyWidth .ph1Count)
  hp1 : Byte
  ph2 : Byte
  hp2 : Byte
  ph3Slot0 : Byte
  ph3Slot1 : Byte
  ph3Occ : BitVec (legacyWidth .ph3Occ)
  hp3Slot0 : Byte
  hp3Slot1 : Byte
  hp3Occ : BitVec (legacyWidth .hp3Occ)
  ph4 : Byte
  hp4 : Byte
  hDA : ChannelFlags
  hSA : ChannelFlags
  pDA : ChannelFlags
  pSA : ChannelFlags
  hfl : Byte
  pfl : Byte
  cr : ControlBits
  hirq : Bool
  pirq : Bool
  pnmi : Bool
deriving DecidableEq, Repr

/-- The "explicit per-field widening" of a legacy state (R224): each field takes the zero-extended value of the legacy
field of the same name. -/
def LegacyUla.widen (l : LegacyUla) : Ula where
  ph1 := ⟨l.ph1Bytes, l.ph1Head.toNat, l.ph1Tail.toNat, l.ph1Count.toNat⟩
  hp1 := l.hp1
  ph2 := l.ph2
  hp2 := l.hp2
  ph3 := ⟨l.ph3Slot0, l.ph3Slot1, l.ph3Occ.toNat⟩
  hp3 := ⟨l.hp3Slot0, l.hp3Slot1, l.hp3Occ.toNat⟩
  ph4 := l.ph4
  hp4 := l.hp4
  hDA := l.hDA
  hSA := l.hSA
  pDA := l.pDA
  pSA := l.pSA
  hfl := l.hfl
  pfl := l.pfl
  cr := l.cr
  hirq := l.hirq
  pirq := l.pirq
  pnmi := l.pnmi

end Sys2Proof.Machine
end

