-- ==== Sys2Proof/Machine/Codec.lean ====
section
/-! DEFINITION. The codec of the persisted state (spec R223): `Encode2`, `Decode2`, `DecodeLegacy` and the coding of the
AUX byte are parameters, so they are ONE opaque value of a type that carries the laws a model may assume and no other
property. The type needs an inhabitant to be declared opaque; `Codec.witness` is one, and nothing can be proved to make
`Config.codec` it. -/

namespace Sys2Proof.Machine

open Sys2Proof.Config

/-- The codec functions for each capacity `n`, with the laws of R223 and R224. -/
structure Codec where
  /-- The size of the current block ("fixed-size", R221). -/
  blockLength : Nat → Nat
  /-- `Encode2`. -/
  encode2 : Nat → Ula → List Byte
  /-- `Decode2`. -/
  decode2 : Nat → List Byte → Ula
  /-- The size of the legacy block (R224). -/
  legacyLength : Nat → Nat
  /-- The fields of a legacy block (R224), total (R223 c). -/
  legacyFields : Nat → List Byte → LegacyUla
  /-- "AUX as a byte" (R221); its coding is not in the source (N14). -/
  auxByte : Bool → Byte
  /-- The AUX bit of a loaded aux byte (R222). -/
  auxBit : Byte → Bool
  /-- R223 (b): `Encode2` has fixed output length. -/
  encode2_length : ∀ n u, (encode2 n u).length = blockLength n
  /-- R223 (a): `Decode2(Encode2(s)) = s`, for the states of the type (log 10). -/
  decode2_encode2 : ∀ n u, u.WellTyped n → decode2 n (encode2 n u) = u
  /-- A saved AUX bit loads as itself (V14 a). -/
  auxBit_auxByte : ∀ b, auxBit (auxByte b) = b
  /-- R224: the legacy block is "a smaller fixed block". -/
  legacy_smaller : ∀ n, legacyLength n < blockLength n
  /-- There is a legacy save file (R226 presupposes one; log 10): some legacy block decodes to a state of the type. -/
  legacy_inhabited : ∀ n, 0 < n →
    ∃ b : List Byte, b.length = legacyLength n ∧ (legacyFields n b).widen.WellTyped n

/-- `k` as `n` bytes, for the inhabitant below: `k` ones, then zeros. -/
def unaryBytes (n k : Nat) : List Byte := List.replicate (min k n) 1#8 ++ List.replicate (n - k) 0#8

/-- Exactly `n` bytes of a list, padded with zeros, for the inhabitant below. -/
def padBytes (n : Nat) (l : List Byte) : List Byte := (l ++ List.replicate n 0#8).take n

/-- A bit as a byte, for the inhabitant below. -/
def bitByte (b : Bool) : Byte := if b then 1#8 else 0#8

/-- The block of the inhabitant below: 33 fixed bytes, then the FIFO's bytes and counters, `n` bytes each. -/
def witnessEncode (n : Nat) (u : Ula) : List Byte :=
  [u.hp1, u.ph2, u.hp2, u.ph3.slot0, u.ph3.slot1, BitVec.ofNat 8 u.ph3.occ, u.hp3.slot0, u.hp3.slot1,
    BitVec.ofNat 8 u.hp3.occ, u.ph4, u.hp4,
    bitByte u.hDA.c1, bitByte u.hDA.c2, bitByte u.hDA.c3, bitByte u.hDA.c4,
    bitByte u.hSA.c1, bitByte u.hSA.c2, bitByte u.hSA.c3, bitByte u.hSA.c4,
    bitByte u.pDA.c1, bitByte u.pDA.c2, bitByte u.pDA.c3, bitByte u.pDA.c4,
    bitByte u.pSA.c1, bitByte u.pSA.c2, bitByte u.pSA.c3, bitByte u.pSA.c4,
    u.hfl, u.pfl, u.cr.setWidth 8, bitByte u.hirq, bitByte u.pirq, bitByte u.pnmi]
  ++ (padBytes n u.ph1.bytes ++ (unaryBytes n u.ph1.head ++ (unaryBytes n u.ph1.tail ++ unaryBytes n u.ph1.count)))

/-- Its inverse on blocks it wrote. -/
def witnessDecode (n : Nat) (l : List Byte) : Ula :=
  let b := fun i => l.getD i 0#8
  let f := fun i => b i == 1#8
  let r := l.drop 33
  { ph1 := ⟨r.take n, ((r.drop n).take n).count 1#8, ((r.drop (n + n)).take n).count 1#8,
      (r.drop (n + n + n)).count 1#8⟩
    hp1 := b 0, ph2 := b 1, hp2 := b 2
    ph3 := ⟨b 3, b 4, (b 5).toNat⟩
    hp3 := ⟨b 6, b 7, (b 8).toNat⟩
    ph4 := b 9, hp4 := b 10
    hDA := ⟨f 11, f 12, f 13, f 14⟩
    hSA := ⟨f 15, f 16, f 17, f 18⟩
    pDA := ⟨f 19, f 20, f 21, f 22⟩
    pSA := ⟨f 23, f 24, f 25, f 26⟩
    hfl := b 27, pfl := b 28, cr := (b 29).setWidth 7, hirq := f 30, pirq := f 31, pnmi := f 32 }

theorem unaryBytes_length (n k : Nat) : (unaryBytes n k).length = n := by
  simp [unaryBytes]; omega

theorem unaryBytes_count (n k : Nat) (h : k ≤ n) : (unaryBytes n k).count 1#8 = k := by
  simp [unaryBytes, List.count_replicate, Nat.min_eq_left h]

theorem padBytes_length (n : Nat) (l : List Byte) : (padBytes n l).length = n := by
  simp [padBytes]

theorem padBytes_of_length (l : List Byte) : padBytes l.length l = l := by
  simp [padBytes]

theorem bitByte_beq (b : Bool) : (bitByte b == 1#8) = b := by
  cases b <;> rfl

theorem witnessDecode_witnessEncode (n : Nat) (u : Ula) (h : u.WellTyped n) :
    witnessDecode n (witnessEncode n u) = u := by
  obtain ⟨hb, hh, ht, hc, h3, h3'⟩ := h
  obtain ⟨⟨bytes, head, tail, count⟩, hp1, ph2, hp2, ⟨p0, p1, pocc⟩, ⟨q0, q1, qocc⟩, ph4, hp4, hDA, hSA, pDA, pSA,
    hfl, pfl, cr, hirq, pirq, pnmi⟩ := u
  simp only at hb hh ht hc h3 h3'
  subst hb
  have e1 := unaryBytes_length bytes.length head
  have e2 := unaryBytes_length bytes.length tail
  have k1 := unaryBytes_count bytes.length head (by omega)
  have k2 := unaryBytes_count bytes.length tail (by omega)
  have k3 := unaryBytes_count bytes.length count hc
  have p : pocc % 256 = pocc := Nat.mod_eq_of_lt (by omega)
  have q : qocc % 256 = qocc := Nat.mod_eq_of_lt (by omega)
  have d1 : bytes.drop (bytes.length + bytes.length) = [] := List.drop_eq_nil_of_le (by omega)
  have d2 : bytes.drop (bytes.length + bytes.length + bytes.length) = [] := List.drop_eq_nil_of_le (by omega)
  have d3 : (unaryBytes bytes.length head).drop (bytes.length + bytes.length) = [] :=
    List.drop_eq_nil_of_le (by omega)
  simp [witnessDecode, witnessEncode, padBytes_of_length, bitByte_beq, List.drop_append,
    e1, e2, k1, k2, k3, p, q, d1, d2, d3]

/-- An inhabitant, to show that the laws contradict nothing. -/
def Codec.witness : Codec where
  blockLength n := 33 + 4 * n
  encode2 := witnessEncode
  decode2 := witnessDecode
  legacyLength _ := 0
  legacyFields n _ :=
    { ph1Bytes := List.replicate n 0#8, ph1Head := 0, ph1Tail := 0, ph1Count := 0, hp1 := 0, ph2 := 0, hp2 := 0,
      ph3Slot0 := 0, ph3Slot1 := 0, ph3Occ := 0, hp3Slot0 := 0, hp3Slot1 := 0, hp3Occ := 0, ph4 := 0, hp4 := 0,
      hDA := ⟨false, false, false, false⟩, hSA := ⟨true, true, true, true⟩, pDA := ⟨false, false, false, false⟩,
      pSA := ⟨true, true, true, true⟩, hfl := 0, pfl := 0, cr := 0, hirq := false, pirq := false, pnmi := false }
  auxByte := bitByte
  auxBit b := b == 1#8
  encode2_length n u := by
    simp [witnessEncode, padBytes_length, unaryBytes_length]; omega
  decode2_encode2 := witnessDecode_witnessEncode
  auxBit_auxByte := bitByte_beq
  legacy_smaller n := by omega
  legacy_inhabited n hn := ⟨[], rfl, by simp [LegacyUla.widen, Ula.WellTyped, hn]⟩

end Sys2Proof.Machine

namespace Sys2Proof.Config

/-- The codec of an implementation, given that some codec exists. No body: nothing can be proved of its value beyond the
laws of `Codec`. -/
opaque codecOf [Inhabited Sys2Proof.Machine.Codec] : Sys2Proof.Machine.Codec

/-- The codec (R223): a free value with the laws of `Codec` (log 9). -/
def codec : Sys2Proof.Machine.Codec := @codecOf ⟨Sys2Proof.Machine.Codec.witness⟩

end Sys2Proof.Config
end

