-- ==== Sys2Proof/Machine/State.lean ====
section
/-! DEFINITION. The whole state of the block and its environment-facing part (spec R20, R40 to R43), the reasons a step
can stop, the values and events an operation gives out (R9, R11), and the state after power-on (R47, R285). -/

namespace Sys2Proof.Machine

open Sys2Proof.Config

/-- An output event, "emit E(args)" of R9 and R11. The parasite-side events name the CPU whose line setters or `reset()`
they call: the one attached (R196). -/
inductive Event where
  /-- `emit HostIRQ(level)`. -/
  | hostIrq (level : Bool)
  /-- `emit ParIRQ(level)`, to the attached CPU's IRQ line setter. -/
  | parIrq (cpu : CpuTypeDescriptor) (level : Bool)
  /-- `emit ParNMI(level)`, to the attached CPU's NMI line setter. -/
  | parNmi (cpu : CpuTypeDescriptor) (level : Bool)
  /-- `emit CpuInit(cpu, image)`: the initializer of `cpu`, with no image where none is needed (R195). -/
  | cpuInit (cpu : CpuTypeDescriptor) (image : Option (List Byte))
  /-- `emit CpuReset()`: the `reset()` of the attached CPU (R121, R196). -/
  | cpuReset (cpu : CpuTypeDescriptor)
  /-- `emit Log(resource-error)` of a failed attach (R195); no other log message is recorded (R257, log 5). -/
  | logResourceError
deriving DecidableEq, Repr

/-- What an operation returns to the agent that performed it (R11 "return v"). -/
inductive Result where
  /-- The operation returns nothing. -/
  | nothing
  /-- The byte of a bus read (R110, R150). -/
  | byte (v : Byte)
  /-- FINDCPU: a descriptor, or not-found (R191). -/
  | descriptor (d : Option CpuTypeDescriptor)
  /-- LOADCFG: the list loaded (R192). -/
  | configurations (l : List TubeConfiguration)
  /-- SELECT: the configuration selected, or none (R193). -/
  | configuration (c : Option TubeConfiguration)
  /-- SAVE: the byte string (R221). -/
  | saved (bytes : List Byte)
deriving DecidableEq, Repr

/-- The reasons the machine stops with a fault. There are none: "No operation of the block raises a synchronous
exception, faults, stalls or fails" (R240). -/
inductive Fault where
deriving DecidableEq, Repr

/-- The reasons a step is refused. All are safe: the model stops where the spec tells a model to refuse. -/
inductive Refusal where
  /-- An operation without a meaning yet, raised by an arm of `exec` only; safe. No arm raises it. -/
  | notModelled (mnemonic : String)
  /-- The packet is no operation of the block; raised by `step` when the decoder rejects it (R82, R65, U12); safe. -/
  | undecodable (reason : DecodeError)
  /-- LOADCFG of a section without `speed`; raised by its meaning ("refuse: LOADCFG requires it", U28); safe. -/
  | speedMissing
  /-- LOAD of a block that is not exactly of the layout's length; raised by its meaning (U18); safe. -/
  | blockLength (length : Nat)
  /-- LOAD of a block whose decoded fields break the type constraints of the state; raised by its meaning ("refuses
  otherwise", U18); safe. -/
  | impossibleFields
deriving DecidableEq, Repr

/-- The state. `input`, `result` and `events` are the model's own (log 3, 4, 5); everything else is the spec's. -/
structure State where
  /-- The parameters of the machine (R7); no operation writes them. -/
  params : Params
  /-- The ULA state (R20). -/
  ula : Ula
  /-- ATT: a coprocessor is attached (R40). -/
  att : Bool
  /-- SEL: the active selection, an index into `configs` or none (R40). -/
  sel : Option Nat
  /-- CPU: the descriptor of the attached configuration, meaningful while attached (R40). -/
  cpu : CpuTypeDescriptor
  /-- BASE: its base speed multiplier, meaningful while attached (R40). -/
  base : Nat
  /-- PRESET: the runtime speed preset multiplier (R41). -/
  preset : Nat
  /-- MULT: the effective multiplier last computed (R41). -/
  mult : Nat
  /-- AUX: the auxiliary "ROM overlay active" bit (R42). -/
  aux : Bool
  /-- CONFIGS: the list of tube configurations (R43). -/
  configs : List TubeConfiguration
  /-- The operations the agents present and the block has not yet performed, next first (R5, R10, R44). -/
  input : List Packet
  /-- What the last operation returned. -/
  result : Result
  /-- Every event emitted so far, oldest first (R254). -/
  events : List Event
deriving DecidableEq, Repr

/-- Power-on, before the first ATTACH (R47, R285): detached, no selection, the three lines 0, the register state that of
a hard reset, the built-in configuration list (R287), nothing presented, nothing emitted. The values of `cpu`, `base`,
`preset`, `mult` and `aux` are DESIGN CHOICE (log 6, 7, 8). -/
def State.reset : State where
  params := Params.defaults
  ula := Ula.fresh 24
  att := false
  sel := none
  cpu := CpuTypeDescriptor.blank
  base := 0
  preset := 0
  mult := 0
  aux := false
  configs := Config.defaultConfigs
  input := []
  result := .nothing
  events := []

end Sys2Proof.Machine
end

