-- ==== Sys2Proof/Machine/Operands.lean ====
section
/-! DEFINITION. The operand and value forms of the operations: the selector (spec R80, R83), the status byte (R84 to
R86), the operands of the management events (R191 to R194). -/

namespace Sys2Proof.Machine

open Sys2Proof.Config

/-- The channel a selector addresses, `c = a[2:1] + 1` (R83). -/
def selectorChannel (a : Selector) : Nat := (a.extractLsb' 1 2).toNat + 1

/-- Whether a selector addresses the data register (`a[0] = 1`) and not the status byte (R83). -/
def selectorIsData (a : Selector) : Bool := a.getLsbD 0

/-- The address at which a side's CPU sees selector `a`, from the OPEN bases of R62. DESIGN CHOICE (log 28): R62 leaves
the decoding of the upper address bits and mirroring open; here the eight locations are contiguous and not mirrored. No
operation reads it: the block itself sees only the selector. -/
def cpuAddress (side : Side) (a : Selector) : Nat :=
  match side with
  | .host => hostBase + a.toNat
  | .parasite => parBase + a.toNat

/-- A status byte (R84): bit 7 data available, bit 6 space available, bits 5 to 0 as given. -/
def statusByte (da sa : Bool) (low : BitVec 6) : Byte := BitVec.ofBool da ++ BitVec.ofBool sa ++ low

/-- CR[5:0], the control bits folded into the channel-1 status byte (R86); T is not among them. -/
def crLow (cr : ControlBits) : BitVec 6 := cr.extractLsb' 0 6

/-- FINDCPU's lookup: `CATALOG[name]` or not-found (R191); names are compared exactly (N22). -/
def findCpuType (catalog : List CpuTypeDescriptor) (name : String) : Option CpuTypeDescriptor :=
  catalog.find? fun d => d.name == name

/-- The descriptor of a section's `cpu` key: `FINDCPU(s.cpu) or unusable` (R192). A section with no `cpu` key, or with
no name (U21), is unusable. -/
def sectionCpu (catalog : List CpuTypeDescriptor) (s : ConfigSection) : Option CpuTypeDescriptor :=
  match s.name, s.cpu with
  | some _, some cpuName => findCpuType catalog cpuName
  | _, _ => none

/-- The configuration of one tube section (R192); none where `speed` is absent, which LOADCFG refuses (U28). -/
def sectionConfiguration (catalog : List CpuTypeDescriptor) (s : ConfigSection) : Option TubeConfiguration :=
  match s.speed with
  | none => none
  | some speed =>
    some { name := s.name.getD "", cpu := sectionCpu catalog s, romsize := s.romsize.getD 0,
           bootrom := s.bootrom.getD "", speed := speed }

/-- The configurations of the tube sections, in source order, unusable entries kept (R192, D36); none where a section
is refused. -/
def sectionConfigurations (catalog : List CpuTypeDescriptor) : List ConfigSection → Option (List TubeConfiguration)
  | [] => some []
  | s :: rest =>
    match sectionConfiguration catalog s, sectionConfigurations catalog rest with
    | some c, some cs => some (c :: cs)
    | _, _ => none

/-- `loadConfigurations(source)`: the built-in list where the source defines no tube section (R192). -/
def loadConfigurations (p : Params) (source : List ConfigSection) : Option (List TubeConfiguration) :=
  match source with
  | [] => some p.defaultConfigs
  | s :: rest => sectionConfigurations p.catalog (s :: rest)

/-- The index a SELECT operand selects: none where the operand is none, negative, out of range, or the index of an
unusable entry (R193). -/
def selectableIndex (configs : List TubeConfiguration) : Option Int → Option Nat
  | none => none
  | some (.negSucc _) => none
  | some (.ofNat k) =>
    match configs[k]? with
    | none => none
    | some cfg => if cfg.cpu.isSome then some k else none

/-- The configuration a selection stands for, with its descriptor: none where there is no selection, the entry does not
exist, or it is unusable. -/
def usableConfiguration (configs : List TubeConfiguration) (sel : Option Nat) :
    Option (TubeConfiguration × CpuTypeDescriptor) :=
  match sel with
  | none => none
  | some k =>
    match configs[k]? with
    | none => none
    | some cfg => cfg.cpu.map fun cpu => (cfg, cpu)

/-- The effective multiplier (R200): the product first and exactly, then division by two toward zero. -/
def effectiveMultiplier (preset base : Nat) : Nat := preset * base / 2

end Sys2Proof.Machine
end

