-- ==== Sys2Proof/Machine/Flags.lean ====
section
/-! DEFINITION. The control bits (spec R35, R88), the channel-3 width (R38), the derived interrupt levels (R241 to R243)
and the events of their changes (R244, R247, R251). -/

namespace Sys2Proof.Machine

open Sys2Proof.Config

/-- CR.Q: host IRQ enable, via channel 4 (R35). -/
def crQ (cr : ControlBits) : Bool := cr.getLsbD 0

/-- CR.I: parasite IRQ enable, via channel 1 (R35). -/
def crI (cr : ControlBits) : Bool := cr.getLsbD 1

/-- CR.J: parasite IRQ enable, via channel 4 (R35). -/
def crJ (cr : ControlBits) : Bool := cr.getLsbD 2

/-- CR.M: parasite NMI enable, via channel 3 (R35). -/
def crM (cr : ControlBits) : Bool := cr.getLsbD 3

/-- CR.V: 16-bit-mode select (R35). -/
def crV (cr : ControlBits) : Bool := cr.getLsbD 4

/-- CR.P: coprocessor reset-hold (R35). -/
def crP (cr : ControlBits) : Bool := cr.getLsbD 5

/-- CR.T: soft-reset trigger (R35). -/
def crT (cr : ControlBits) : Bool := cr.getLsbD 6

/-- `width()`: 2 if CR.V = 1, 1 if CR.V = 0 (R38). -/
def channelWidth (cr : ControlBits) : Nat := if crV cr then 2 else 1

/-- The host IRQ level, `CR.Q & H_DA[4]` (R241). -/
def hirqLevel (u : Ula) : Bool := crQ u.cr && u.hDA.c4

/-- The parasite IRQ level, `(CR.I & P_DA[1]) | (CR.J & P_DA[4])` (R242). -/
def pirqLevel (u : Ula) : Bool := (crI u.cr && u.pDA.c1) || (crJ u.cr && u.pDA.c4)

/-- The parasite NMI level, `CR.M & P_DA[3]` (R243). -/
def pnmiLevel (u : Ula) : Bool := crM u.cr && u.pDA.c3

/-- The ULA state with its three cached lines at their derived levels. -/
def withDerivedLines (u : Ula) : Ula :=
  { u with hirq := hirqLevel u, pirq := pirqLevel u, pnmi := pnmiLevel u }

/-- The events of the change of the cached lines from those of `old` to those of `new`: one for each line that changed,
rising or falling, with the new level, in the order host IRQ, parasite IRQ, parasite NMI (R244, R247, R251). -/
def lineEvents (cpu : CpuTypeDescriptor) (old new : Ula) : List Event :=
  (if old.hirq = new.hirq then [] else [.hostIrq new.hirq]) ++
  (if old.pirq = new.pirq then [] else [.parIrq cpu new.pirq]) ++
  (if old.pnmi = new.pnmi then [] else [.parNmi cpu new.pnmi])

end Sys2Proof.Machine
end

