-- ==== Sys2Proof/Machine/Ops.lean ====
section
/-! DEFINITION. The named operations over the registers: the FIFO and the shift buffers (spec R24, R27), the control
register (R88), the resets (R281, R282), interrupt derivation and delivery (R244), detaching (R197), and the common
frame of every bus transaction (R110, R150). On this hardware "taking an exception" is `updateInts`: the block's part
ends with the line setter's call (R254), and there is no return operation (R255). -/

namespace Sys2Proof.Machine

open Sys2Proof.Config

/-! ## The data paths -/

/-- A FIFO push (R24); performed only when there is room. -/
def fifoPush (n : Nat) (v : Byte) (f : Fifo) : Fifo :=
  { bytes := f.bytes.set f.tail v, head := f.head, tail := (f.tail + 1) % n, count := f.count + 1 }

/-- The byte a FIFO pop reads, `PH1[ph1_head]` (R24). -/
def fifoFront (f : Fifo) : Byte := f.bytes.getD f.head 0#8

/-- What a FIFO pop leaves (R24): the popped slot keeps its byte; performed only when the FIFO is not empty. -/
def fifoPop (n : Nat) (f : Fifo) : Fifo :=
  { f with head := (f.head + 1) % n, count := f.count - 1 }

/-- A shift-buffer write: the byte is stored at slot `occ` (R27); performed only when `occ < width()`. -/
def shiftAppend (v : Byte) (b : ShiftBuffer) : ShiftBuffer :=
  if b.occ = 0 then { b with slot0 := v, occ := b.occ + 1 } else { b with slot1 := v, occ := b.occ + 1 }

/-- What a shift-buffer read leaves: slot 1 moves down to slot 0 and keeps its byte (R27, R116). -/
def shiftPop (b : ShiftBuffer) : ShiftBuffer :=
  { b with slot0 := b.slot1, occ := b.occ - 1 }

/-- The channel-1 FIFO read of the host (R112): the byte returned and the state left. -/
def takeFifo (n : Nat) (u : Ula) : Byte × Ula :=
  if 0 < u.ph1.count then
    (fifoFront u.ph1,
      { u with
        ph1 := fifoPop n u.ph1
        hDA := if u.ph1.count - 1 = 0 then { u.hDA with c1 := false } else u.hDA
        pSA := { u.pSA with c1 := true } })
  else (u.hfl, u)

/-- The channel-1 FIFO write of the parasite (R161): dropped when the FIFO is full. -/
def putFifo (n : Nat) (v : Byte) (u : Ula) : Ula :=
  if u.ph1.count < n then
    { u with
      ph1 := fifoPush n v u.ph1
      hDA := { u.hDA with c1 := true }
      pSA := if u.ph1.count + 1 = n then { u.pSA with c1 := false } else u.pSA }
  else u

/-- The channel-3 read of the host (R116). -/
def takePH3 (u : Ula) : Byte × Ula :=
  if 0 < u.ph3.occ then
    (u.ph3.slot0,
      { u with
        ph3 := shiftPop u.ph3
        hDA := if u.ph3.occ - 1 = 0 then { u.hDA with c3 := false } else u.hDA
        pSA := { u.pSA with c3 := true } })
  else (u.hfl, u)

/-- The channel-3 read of the parasite (R156). -/
def takeHP3 (u : Ula) : Byte × Ula :=
  if 0 < u.hp3.occ then
    (u.hp3.slot0,
      { u with
        hp3 := shiftPop u.hp3
        pDA := if u.hp3.occ - 1 = 0 then { u.pDA with c3 := false } else u.pDA
        hSA := { u.hSA with c3 := true } })
  else (u.pfl, u)

/-- The channel-3 write of the host (R126): dropped at the active width. -/
def putHP3 (v : Byte) (u : Ula) : Ula :=
  if u.hp3.occ < channelWidth u.cr then
    if channelWidth u.cr ≤ u.hp3.occ + 1 then
      { u with
        hp3 := shiftAppend v u.hp3
        pDA := { u.pDA with c3 := true }
        hSA := { u.hSA with c3 := false } }
    else { u with hp3 := shiftAppend v u.hp3 }
  else u

/-- The channel-3 write of the parasite (R165): dropped at the active width. -/
def putPH3 (v : Byte) (u : Ula) : Ula :=
  if u.ph3.occ < channelWidth u.cr then
    if channelWidth u.cr ≤ u.ph3.occ + 1 then
      { u with
        ph3 := shiftAppend v u.ph3
        hDA := { u.hDA with c3 := true }
        pSA := { u.pSA with c3 := false } }
    else { u with ph3 := shiftAppend v u.ph3 }
  else u

/-- The host read of the latch PH2 (R114): the byte returned and the state left; the flags are written unconditionally
(D24). -/
def readPH2 (u : Ula) : Byte × Ula :=
  (u.ph2, { u with hDA := { u.hDA with c2 := false }, pSA := { u.pSA with c2 := true } })

/-- The host read of the latch PH4 (R118). -/
def readPH4 (u : Ula) : Byte × Ula :=
  (u.ph4, { u with hDA := { u.hDA with c4 := false }, pSA := { u.pSA with c4 := true } })

/-- The parasite read of the latch HP1 (R152). -/
def readHP1 (u : Ula) : Byte × Ula :=
  (u.hp1, { u with pDA := { u.pDA with c1 := false }, hSA := { u.hSA with c1 := true } })

/-- The parasite read of the latch HP2 (R154). -/
def readHP2 (u : Ula) : Byte × Ula :=
  (u.hp2, { u with pDA := { u.pDA with c2 := false }, hSA := { u.hSA with c2 := true } })

/-- The parasite read of the latch HP4 (R158). -/
def readHP4 (u : Ula) : Byte × Ula :=
  (u.hp4, { u with pDA := { u.pDA with c4 := false }, hSA := { u.hSA with c4 := true } })

/-- The host write of the latch HP1 (R122); an unread byte is overwritten (R129). -/
def storeHP1 (v : Byte) (u : Ula) : Ula :=
  { u with hp1 := v, pDA := { u.pDA with c1 := true }, hSA := { u.hSA with c1 := false } }

/-- The host write of the latch HP2 (R124, R129). -/
def storeHP2 (v : Byte) (u : Ula) : Ula :=
  { u with hp2 := v, pDA := { u.pDA with c2 := true }, hSA := { u.hSA with c2 := false } }

/-- The host write of the latch HP4 (R128, R129). -/
def storeHP4 (v : Byte) (u : Ula) : Ula :=
  { u with hp4 := v, pDA := { u.pDA with c4 := true }, hSA := { u.hSA with c4 := false } }

/-- The parasite write of the latch PH2 (R163). -/
def storePH2 (v : Byte) (u : Ula) : Ula :=
  { u with ph2 := v, hDA := { u.hDA with c2 := true }, pSA := { u.pSA with c2 := false } }

/-- The parasite write of the latch PH4 (R167). -/
def storePH4 (v : Byte) (u : Ula) : Ula :=
  { u with ph4 := v, hDA := { u.hDA with c4 := true }, pSA := { u.pSA with c4 := false } }

/-! ## Resets and the control register -/

/-- `ClearChannels()` (R281). -/
def clearChannels (n : Nat) (u : Ula) : Ula :=
  { u with
    ph1 := ⟨List.replicate n 0#8, 0, 0, 0⟩
    hp1 := 0#8, ph2 := 0#8, hp2 := 0#8, ph4 := 0#8, hp4 := 0#8
    ph3 := ⟨0#8, 0#8, 0⟩
    hp3 := ⟨0#8, 0#8, 0⟩
    hDA := ⟨false, false, false, false⟩
    pDA := ⟨false, false, false, false⟩
    hSA := ⟨true, true, true, true⟩
    pSA := ⟨true, true, true, true⟩ }

/-- What `HardReset()` clears beyond `ClearChannels()` (R282): CR and the two fallback latches. -/
def clearControlState (u : Ula) : Ula := { u with cr := 0#7, hfl := 0#8, pfl := 0#8 }

/-- Set-bits mode (R88, R120): `CR <- CR | m`, and a soft reset when T goes from 0 to 1. -/
def setControl (n : Nat) (m : ControlBits) (u : Ula) : Ula :=
  if crT u.cr = false ∧ crT (u.cr ||| m) = true then clearChannels n { u with cr := u.cr ||| m }
  else { u with cr := u.cr ||| m }

/-- Clear-bits mode (R88, R121): `CR <- CR & ~m`. -/
def clearControl (m : ControlBits) (u : Ula) : Ula := { u with cr := u.cr &&& ~~~m }

/-! ## Updates of the whole state -/

/-- The host IRQ line as the environment observes it (R39): the cached line while attached, 0 while detached (R248). A
state loaded while detached keeps its cached lines (R222, U19) and stays unobservable (log 12). -/
def State.hostIrqLine (s : State) : Bool := s.att && s.ula.hirq

/-- The parasite IRQ line as the environment observes it (R39, R248). -/
def State.parIrqLine (s : State) : Bool := s.att && s.ula.pirq

/-- The parasite NMI line as the environment observes it (R39, R248). -/
def State.parNmiLine (s : State) : Bool := s.att && s.ula.pnmi

/-- The ULA state with its three cached lines 0, as `Detach()` leaves them (R197). -/
def linesLow (u : Ula) : Ula := { u with hirq := false, pirq := false, pnmi := false }

/-- The state with another ULA state. -/
def State.withUla (s : State) (u : Ula) : State := { s with ula := u }

/-- The state after one more emitted event (R11). -/
def State.emit (s : State) (e : Event) : State := { s with events := s.events ++ [e] }

/-- The state after the operation's value is returned (R11). -/
def State.returning (s : State) (r : Result) : State := { s with result := r }

/-- The state with no selection: `SEL <- none` (R193, R195). -/
def State.deselect (s : State) : State := { s with sel := none }

/-- The state with the coprocessor of a configuration attached and its multiplier computed (R195, R200). The lines of a
detached block are 0 (R248), so attaching starts from cached lines of 0 and the hard reset that follows emits no line
event (R195), also where a state was loaded while detached (log 12). -/
def State.withAttached (s : State) (cpu : CpuTypeDescriptor) (base : Nat) : State :=
  { s with
    ula := linesLow s.ula, cpu := cpu, base := base, att := true, mult := effectiveMultiplier s.preset base }

/-- `UpdateInts()` (R244): while attached, the cached lines take their derived levels and each change is one event;
while detached nothing (R248). -/
def updateInts (s : State) : State :=
  if s.att then
    { s with
      ula := withDerivedLines s.ula
      events := s.events ++ lineEvents s.cpu s.ula (withDerivedLines s.ula) }
  else s

/-- `HardReset()` (R282). It never calls `CpuReset` (R286, D26). -/
def hardReset (s : State) : State :=
  updateInts (s.withUla (clearControlState (clearChannels s.params.fifoDepth s.ula)))

/-- `Detach()` (R197): an asserted host line falls with its event, the parasite lines without one. -/
def detach (s : State) : State :=
  { s with
    ula := linesLow s.ula
    att := false
    events := if s.hostIrqLine then s.events ++ [.hostIrq false] else s.events }

/-! ## The common frame of the bus transactions -/

/-- A bus read of either side (R110, R150): `r` is the byte the addressed register gives and the ULA state it leaves.
While detached the read returns `IDLE` and changes nothing (R63). -/
def busRead (r : Byte × Ula) (s : State) : State :=
  if s.att then (updateInts (s.withUla r.2)).returning (.byte r.1)
  else s.returning (.byte s.params.idle)

/-- A bus write of either side (R110, R150): `u` is the ULA state the write leaves, its fallback latch loaded. While
detached nothing changes (R63). -/
def busWrite (u : Ula) (s : State) : State :=
  if s.att then (updateInts (s.withUla u)).returning .nothing
  else s.returning .nothing

/-- The ULA state after a host write has loaded the host fallback latch, its first step (R119). -/
def loadHfl (v : Byte) (u : Ula) : Ula := { u with hfl := v }

/-- The ULA state after a parasite write has loaded the parasite fallback latch, its first step (R159). -/
def loadPfl (v : Byte) (u : Ula) : Ula := { u with pfl := v }

/-! ## Attaching -/

/-- The image handed to a CPU's initializer: none where none is needed, else the bytes answered (R195). -/
def bootImage : FsAnswer → Option (List Byte)
  | .noneNeeded => none
  | .bytes image => some image
  | .failed => none

/-- The part of ATTACH after the initializer answered (R195): on success the CPU is attached, the multiplier computed
and the block hard-reset; otherwise the coprocessor is disabled. -/
def finishAttach (cfg : TubeConfiguration) (cpu : CpuTypeDescriptor) (initOk : Bool) (s : State) : State :=
  if initOk then hardReset (s.withAttached cpu cfg.speed) else s.deselect

/-- ATTACH for a usable configuration (R195): a failed image is logged once and disables the coprocessor; else the
initializer is called, while the block is still detached (R290). -/
def attachTo (cfg : TubeConfiguration) (cpu : CpuTypeDescriptor) (fs : FsAnswer) (initOk : Bool) (s : State) : State :=
  match fs with
  | .failed => (s.emit .logResourceError).deselect
  | .noneNeeded => finishAttach cfg cpu initOk (s.emit (.cpuInit cpu (bootImage .noneNeeded)))
  | .bytes image => finishAttach cfg cpu initOk (s.emit (.cpuInit cpu (bootImage (.bytes image))))

/-- `if ATT = 1: Detach()`, the first line of ATTACH (R195, D27). -/
def detachIfAttached (s : State) : State := if s.att then detach s else s

/-- ATTACH (R195): a re-attach detaches first (D27); without a usable selection the block stays detached (log 13). -/
def attachSelected (fs : FsAnswer) (initOk : Bool) (s : State) : State :=
  match usableConfiguration s.configs s.sel with
  | none => (detachIfAttached s).deselect
  | some (cfg, cpu) => attachTo cfg cpu fs initOk (detachIfAttached s)

end Sys2Proof.Machine
end

