-- ==== Sys2Proof/Machine/HostAccess.lean ====
section
/-! DEFINITION. The meanings of the seventeen host-side bus transactions (spec `40_host_access.md`), one per operation. -/

namespace Sys2Proof.Machine

/-- `HR.S1` (R111): the channel-1 status byte, with CR[5:0] folded in. -/
def execHrS1 (s : State) : Host.Outcome State Fault Refusal :=
  .next (busRead (statusByte s.ula.hDA.c1 s.ula.hSA.c1 (crLow s.ula.cr), s.ula) s)

/-- `HR.D1` (R112): drains the FIFO; the host fallback latch when it is empty. -/
def execHrD1 (s : State) : Host.Outcome State Fault Refusal :=
  .next (busRead (takeFifo s.params.fifoDepth s.ula) s)

/-- `HR.S2` (R113): the channel-2 status byte. -/
def execHrS2 (s : State) : Host.Outcome State Fault Refusal :=
  .next (busRead (statusByte s.ula.hDA.c2 s.ula.hSA.c2 0#6, s.ula) s)

/-- `HR.D2` (R114): the latch PH2; the flags are written unconditionally (D24). -/
def execHrD2 (s : State) : Host.Outcome State Fault Refusal :=
  .next (busRead (readPH2 s.ula) s)

/-- `HR.S3` (R115): the channel-3 status byte. -/
def execHrS3 (s : State) : Host.Outcome State Fault Refusal :=
  .next (busRead (statusByte s.ula.hDA.c3 s.ula.hSA.c3 0#6, s.ula) s)

/-- `HR.D3` (R116): pops the shift buffer PH3; the host fallback latch when it is empty. -/
def execHrD3 (s : State) : Host.Outcome State Fault Refusal :=
  .next (busRead (takePH3 s.ula) s)

/-- `HR.S4` (R117): the channel-4 status byte. -/
def execHrS4 (s : State) : Host.Outcome State Fault Refusal :=
  .next (busRead (statusByte s.ula.hDA.c4 s.ula.hSA.c4 0#6, s.ula) s)

/-- `HR.D4` (R118): the latch PH4; acknowledges the host interrupt. -/
def execHrD4 (s : State) : Host.Outcome State Fault Refusal :=
  .next (busRead (readPH4 s.ula) s)

/-- `HW.CTL.SET` (R120): set-bits mode, with a soft reset on T 0->1. -/
def execHwCtlSet (m : ControlBits) (s : State) : Host.Outcome State Fault Refusal :=
  .next (busWrite (setControl s.params.fifoDepth m (loadHfl (controlByte true m) s.ula)) s)

/-- `HW.CTL.CLR` (R121): clear-bits mode; when an attached coprocessor's reset-hold goes 1->0 its `reset()` is called
once, after the operation's own state, lines included, is final (R290, D33). -/
def execHwCtlClr (m : ControlBits) (s : State) : Host.Outcome State Fault Refusal :=
  let t := busWrite (clearControl m (loadHfl (controlByte false m) s.ula)) s
  .next (if s.att && crP s.ula.cr && !crP (s.ula.cr &&& ~~~m) then t.emit (.cpuReset s.cpu) else t)

/-- `HW.D1` (R122): the latch HP1. -/
def execHwD1 (v : Byte) (s : State) : Host.Outcome State Fault Refusal :=
  .next (busWrite (storeHP1 v (loadHfl v s.ula)) s)

/-- `HW.S2` (R123): ignored but for the fallback latch. -/
def execHwS2 (v : Byte) (s : State) : Host.Outcome State Fault Refusal :=
  .next (busWrite (loadHfl v s.ula) s)

/-- `HW.D2` (R124): the latch HP2. -/
def execHwD2 (v : Byte) (s : State) : Host.Outcome State Fault Refusal :=
  .next (busWrite (storeHP2 v (loadHfl v s.ula)) s)

/-- `HW.S3` (R125): ignored but for the fallback latch. -/
def execHwS3 (v : Byte) (s : State) : Host.Outcome State Fault Refusal :=
  .next (busWrite (loadHfl v s.ula) s)

/-- `HW.D3` (R126): appends to the shift buffer HP3. -/
def execHwD3 (v : Byte) (s : State) : Host.Outcome State Fault Refusal :=
  .next (busWrite (putHP3 v (loadHfl v s.ula)) s)

/-- `HW.S4` (R127): ignored but for the fallback latch. -/
def execHwS4 (v : Byte) (s : State) : Host.Outcome State Fault Refusal :=
  .next (busWrite (loadHfl v s.ula) s)

/-- `HW.D4` (R128): the latch HP4. -/
def execHwD4 (v : Byte) (s : State) : Host.Outcome State Fault Refusal :=
  .next (busWrite (storeHP4 v (loadHfl v s.ula)) s)

end Sys2Proof.Machine
end

