-- ==== Sys2Proof/Machine/Management.lean ====
section
/-! DEFINITION. The meanings of the eight management events: HRESET (spec R283), LOADCFG, FINDCPU, SELECT, ATTACH, SPEED
(`42_dispatch_and_governor.md`), SAVE and LOAD (`43_state_codec.md`), one per event. -/

namespace Sys2Proof.Machine

open Sys2Proof.Config

/-- `HRESET` (R283): a hard reset while attached; while detached nothing (log 22). -/
def execHreset (s : State) : Host.Outcome State Fault Refusal :=
  .next ((if s.att then hardReset s else s).returning .nothing)

/-- `LOADCFG(source)` (R192); a section without `speed` is refused (U28). -/
def execLoadcfg (source : List ConfigSection) (s : State) : Host.Outcome State Fault Refusal :=
  match loadConfigurations s.params source with
  | some configs => .next { s with configs := configs, result := .configurations configs }
  | none => .refused .speedMissing

/-- `FINDCPU(name)` (R191): a pure lookup. -/
def execFindcpu (name : String) (s : State) : Host.Outcome State Fault Refusal :=
  .next (s.returning (.descriptor (findCpuType s.params.catalog name)))

/-- `SELECT(i)` (R193): a usable index takes effect at the next ATTACH; anything else disables the coprocessor. -/
def execSelect (index : Option Int) (s : State) : Host.Outcome State Fault Refusal :=
  .next (match selectableIndex s.configs index with
    | some k => { s with sel := some k, result := .configuration s.configs[k]? }
    | none => (detach s).deselect.returning (.configuration none))

/-- `ATTACH(fs, init_ok)` (R195). -/
def execAttach (fs : FsAnswer) (initOk : Bool) (s : State) : Host.Outcome State Fault Refusal :=
  .next ((attachSelected fs initOk s).returning .nothing)

/-- `SPEED(p)` (R201): the preset is stored; the multiplier is recomputed while attached. -/
def execSpeed (preset : Nat) (s : State) : Host.Outcome State Fault Refusal :=
  .next { s with
    preset := preset
    mult := if s.att then effectiveMultiplier preset s.base else s.mult
    result := .nothing }

/-- `SAVE` (R221): version byte 2, the AUX byte, the state block (R94). -/
def execSave (s : State) : Host.Outcome State Fault Refusal :=
  .next (s.returning (.saved (2#8 :: codec.auxByte s.aux :: codec.encode2 s.params.fifoDepth s.ula)))

/-- The state after the loaded ULA state `u` and AUX bit have replaced the old ones and `UpdateInts()` has run once,
against the loaded cached lines (R222, D35); while detached there is no recompute and the loaded state, cached lines
included, stays unobservable (R248, log 12). Refused where `u` breaks the type constraints (U18). -/
def finishLoad (u : Ula) (aux : Bool) (s : State) : Host.Outcome State Fault Refusal :=
  if u.WellTyped s.params.fifoDepth then
    .next ((updateInts { s with ula := u, aux := aux }).returning .nothing)
  else .refused .impossibleFields

/-- `LOAD(tag, aux, block)` (R222): tag 2 is the current layout, every other tag the legacy layout, which has no aux
byte (R224, R225); a block that is not of the layout's length is refused (U18). -/
def execLoad (tag aux : Byte) (block : List Byte) (s : State) : Host.Outcome State Fault Refusal :=
  if tag = 2#8 then
    if block.length = codec.blockLength s.params.fifoDepth then
      finishLoad (codec.decode2 s.params.fifoDepth block) (codec.auxBit aux) s
    else .refused (.blockLength block.length)
  else
    if block.length = codec.legacyLength s.params.fifoDepth then
      finishLoad (codec.legacyFields s.params.fifoDepth block).widen s.aux s
    else .refused (.blockLength block.length)

end Sys2Proof.Machine
end

