-- ==== Sys2Proof/Machine/ParasiteAccess.lean ====
section
/-! DEFINITION. The meanings of the sixteen parasite-side bus transactions (spec `41_parasite_access.md`), one per
operation. -/

namespace Sys2Proof.Machine

/-- `PR.S1` (R151): the channel-1 status byte of the parasite's view, with CR[5:0] folded in. -/
def execPrS1 (s : State) : Host.Outcome State Fault Refusal :=
  .next (busRead (statusByte s.ula.pDA.c1 s.ula.pSA.c1 (crLow s.ula.cr), s.ula) s)

/-- `PR.D1` (R152): the latch HP1, never the FIFO and never PFL. -/
def execPrD1 (s : State) : Host.Outcome State Fault Refusal :=
  .next (busRead (readHP1 s.ula) s)

/-- `PR.S2` (R153): the channel-2 status byte. -/
def execPrS2 (s : State) : Host.Outcome State Fault Refusal :=
  .next (busRead (statusByte s.ula.pDA.c2 s.ula.pSA.c2 0#6, s.ula) s)

/-- `PR.D2` (R154): the latch HP2. -/
def execPrD2 (s : State) : Host.Outcome State Fault Refusal :=
  .next (busRead (readHP2 s.ula) s)

/-- `PR.S3` (R155): the channel-3 status byte. -/
def execPrS3 (s : State) : Host.Outcome State Fault Refusal :=
  .next (busRead (statusByte s.ula.pDA.c3 s.ula.pSA.c3 0#6, s.ula) s)

/-- `PR.D3` (R156): pops the shift buffer HP3; the parasite fallback latch when it is empty. -/
def execPrD3 (s : State) : Host.Outcome State Fault Refusal :=
  .next (busRead (takeHP3 s.ula) s)

/-- `PR.S4` (R157): the channel-4 status byte. -/
def execPrS4 (s : State) : Host.Outcome State Fault Refusal :=
  .next (busRead (statusByte s.ula.pDA.c4 s.ula.pSA.c4 0#6, s.ula) s)

/-- `PR.D4` (R158): the latch HP4. -/
def execPrD4 (s : State) : Host.Outcome State Fault Refusal :=
  .next (busRead (readHP4 s.ula) s)

/-- `PW.S1` (R160): ignored but for the fallback latch; the parasite cannot write CR (R159). -/
def execPwS1 (v : Byte) (s : State) : Host.Outcome State Fault Refusal :=
  .next (busWrite (loadPfl v s.ula) s)

/-- `PW.D1` (R161): pushes the FIFO PH1; dropped when it is full. -/
def execPwD1 (v : Byte) (s : State) : Host.Outcome State Fault Refusal :=
  .next (busWrite (putFifo s.params.fifoDepth v (loadPfl v s.ula)) s)

/-- `PW.S2` (R162): ignored but for the fallback latch. -/
def execPwS2 (v : Byte) (s : State) : Host.Outcome State Fault Refusal :=
  .next (busWrite (loadPfl v s.ula) s)

/-- `PW.D2` (R163): the latch PH2. -/
def execPwD2 (v : Byte) (s : State) : Host.Outcome State Fault Refusal :=
  .next (busWrite (storePH2 v (loadPfl v s.ula)) s)

/-- `PW.S3` (R164): ignored but for the fallback latch. -/
def execPwS3 (v : Byte) (s : State) : Host.Outcome State Fault Refusal :=
  .next (busWrite (loadPfl v s.ula) s)

/-- `PW.D3` (R165): appends to the shift buffer PH3. -/
def execPwD3 (v : Byte) (s : State) : Host.Outcome State Fault Refusal :=
  .next (busWrite (putPH3 v (loadPfl v s.ula)) s)

/-- `PW.S4` (R166): ignored but for the fallback latch. -/
def execPwS4 (v : Byte) (s : State) : Host.Outcome State Fault Refusal :=
  .next (busWrite (loadPfl v s.ula) s)

/-- `PW.D4` (R167): the latch PH4; raises the host interrupt while Q is set. -/
def execPwD4 (v : Byte) (s : State) : Host.Outcome State Fault Refusal :=
  .next (busWrite (storePH4 v (loadPfl v s.ula)) s)

end Sys2Proof.Machine
end

