-- ==== Sys2Proof/Machine/Dispatch.lean ====
section
/-! DEFINITION. The meaning of each operation, one arm per constructor (spec R93). -/

namespace Sys2Proof.Machine

def exec (i : Instr) (s : State) : Host.Outcome State Fault Refusal :=
  match i with
  | .hrS1 => Sys2Proof.Machine.execHrS1 s
  | .hrD1 => Sys2Proof.Machine.execHrD1 s
  | .hrS2 => Sys2Proof.Machine.execHrS2 s
  | .hrD2 => Sys2Proof.Machine.execHrD2 s
  | .hrS3 => Sys2Proof.Machine.execHrS3 s
  | .hrD3 => Sys2Proof.Machine.execHrD3 s
  | .hrS4 => Sys2Proof.Machine.execHrS4 s
  | .hrD4 => Sys2Proof.Machine.execHrD4 s
  | .hwCtlSet m => Sys2Proof.Machine.execHwCtlSet m s
  | .hwCtlClr m => Sys2Proof.Machine.execHwCtlClr m s
  | .hwD1 v => Sys2Proof.Machine.execHwD1 v s
  | .hwS2 v => Sys2Proof.Machine.execHwS2 v s
  | .hwD2 v => Sys2Proof.Machine.execHwD2 v s
  | .hwS3 v => Sys2Proof.Machine.execHwS3 v s
  | .hwD3 v => Sys2Proof.Machine.execHwD3 v s
  | .hwS4 v => Sys2Proof.Machine.execHwS4 v s
  | .hwD4 v => Sys2Proof.Machine.execHwD4 v s
  | .prS1 => Sys2Proof.Machine.execPrS1 s
  | .prD1 => Sys2Proof.Machine.execPrD1 s
  | .prS2 => Sys2Proof.Machine.execPrS2 s
  | .prD2 => Sys2Proof.Machine.execPrD2 s
  | .prS3 => Sys2Proof.Machine.execPrS3 s
  | .prD3 => Sys2Proof.Machine.execPrD3 s
  | .prS4 => Sys2Proof.Machine.execPrS4 s
  | .prD4 => Sys2Proof.Machine.execPrD4 s
  | .pwS1 v => Sys2Proof.Machine.execPwS1 v s
  | .pwD1 v => Sys2Proof.Machine.execPwD1 v s
  | .pwS2 v => Sys2Proof.Machine.execPwS2 v s
  | .pwD2 v => Sys2Proof.Machine.execPwD2 v s
  | .pwS3 v => Sys2Proof.Machine.execPwS3 v s
  | .pwD3 v => Sys2Proof.Machine.execPwD3 v s
  | .pwS4 v => Sys2Proof.Machine.execPwS4 v s
  | .pwD4 v => Sys2Proof.Machine.execPwD4 v s
  | .hreset => Sys2Proof.Machine.execHreset s
  | .loadcfg source => Sys2Proof.Machine.execLoadcfg source s
  | .findcpu name => Sys2Proof.Machine.execFindcpu name s
  | .select index => Sys2Proof.Machine.execSelect index s
  | .attach fs initOk => Sys2Proof.Machine.execAttach fs initOk s
  | .speed preset => Sys2Proof.Machine.execSpeed preset s
  | .save => Sys2Proof.Machine.execSave s
  | .load tag aux block => Sys2Proof.Machine.execLoad tag aux block s

end Sys2Proof.Machine
end

