-- ==== Sys2Proof/Machine/Step.lean ====
section
/-! DEFINITION. One step of the block: the next operation the agents present is taken, decoded and performed (spec R5,
R44, R70). -/

namespace Sys2Proof.Machine

/-- One step: the first presented packet is taken from `input` and its operation performed whole; a packet that is no
operation is refused by name; with nothing presented nothing happens (R75, R297, log 3). -/
def step (s : State) : Host.Outcome State Fault Refusal :=
  match s.input with
  | [] => .next s
  | packet :: rest =>
    match decode packet with
    | .ok i => exec i { s with input := rest }
    | .error reason => .refused (.undecodable reason)

/-- The state in which the operation of a table row's bits is the next one presented (log 18). -/
def State.withFetchWord (s : State) (nbits w : Nat) : State := { s with input := packetOfWord nbits w :: s.input }

end Sys2Proof.Machine
end

