-- ==== Sys2Proof/Safety.lean ====
section
/-! DEFINITION. The terms in which statements speak: who performs an operation (spec R6), the invariants of the state
(R23, R28, R33, R244), what a bus transaction does to the whole state, the FIFO as a queue, runs of operations, and the
environment's side of the contract (R194, R264). -/

namespace Sys2Proof.Machine

open Sys2Proof.Config

/-- The three agents (R6). -/
inductive Agent where
  | host | parasite | environment
deriving DecidableEq, Repr

/-- The agent that performs an operation, and, for a bus transaction, its direction and address (R61, R92). -/
inductive Performer where
  | bus (side : Side) (direction : Direction) (address : Selector)
  | environment
deriving DecidableEq, Repr

/-- Who performs each operation, and where (R61, R92). -/
def performerOf : Instr → Performer
  | .hrS1 => .bus .host .read 0#3
  | .hrD1 => .bus .host .read 1#3
  | .hrS2 => .bus .host .read 2#3
  | .hrD2 => .bus .host .read 3#3
  | .hrS3 => .bus .host .read 4#3
  | .hrD3 => .bus .host .read 5#3
  | .hrS4 => .bus .host .read 6#3
  | .hrD4 => .bus .host .read 7#3
  | .hwCtlSet _ => .bus .host .write 0#3
  | .hwCtlClr _ => .bus .host .write 0#3
  | .hwD1 _ => .bus .host .write 1#3
  | .hwS2 _ => .bus .host .write 2#3
  | .hwD2 _ => .bus .host .write 3#3
  | .hwS3 _ => .bus .host .write 4#3
  | .hwD3 _ => .bus .host .write 5#3
  | .hwS4 _ => .bus .host .write 6#3
  | .hwD4 _ => .bus .host .write 7#3
  | .prS1 => .bus .parasite .read 0#3
  | .prD1 => .bus .parasite .read 1#3
  | .prS2 => .bus .parasite .read 2#3
  | .prD2 => .bus .parasite .read 3#3
  | .prS3 => .bus .parasite .read 4#3
  | .prD3 => .bus .parasite .read 5#3
  | .prS4 => .bus .parasite .read 6#3
  | .prD4 => .bus .parasite .read 7#3
  | .pwS1 _ => .bus .parasite .write 0#3
  | .pwD1 _ => .bus .parasite .write 1#3
  | .pwS2 _ => .bus .parasite .write 2#3
  | .pwD2 _ => .bus .parasite .write 3#3
  | .pwS3 _ => .bus .parasite .write 4#3
  | .pwD3 _ => .bus .parasite .write 5#3
  | .pwS4 _ => .bus .parasite .write 6#3
  | .pwD4 _ => .bus .parasite .write 7#3
  | .hreset => .environment
  | .loadcfg _ => .environment
  | .findcpu _ => .environment
  | .select _ => .environment
  | .attach _ _ => .environment
  | .speed _ => .environment
  | .save => .environment
  | .load _ _ _ => .environment

/-- The agent of an operation (R6). -/
def agentOf (i : Instr) : Agent :=
  match performerOf i with
  | .bus .host _ _ => .host
  | .bus .parasite _ _ => .parasite
  | .environment => .environment

/-! ## Invariants -/

/-- The three cached lines equal the three derived levels (R241 to R244), bit by bit of CR. -/
abbrev LinesCurrent (u : Ula) : Prop :=
  u.hirq = (u.cr.getLsbD 0 && u.hDA.c4) ∧
  u.pirq = ((u.cr.getLsbD 1 && u.pDA.c1) || (u.cr.getLsbD 2 && u.pDA.c4)) ∧
  u.pnmi = (u.cr.getLsbD 3 && u.pDA.c3)

/-- The invariant of every state: `N >= 1` (R7), the type constraints (R22, R23, R28), and, while attached, the lines at
their derived levels (R244). -/
abbrev StateInv (s : State) : Prop :=
  1 ≤ s.params.fifoDepth ∧ s.ula.WellTyped s.params.fifoDepth ∧ (s.att = true → LinesCurrent s.ula)

/-- The flags agree with the buffers: the tail of R23 and the guarantees of R33. A LOAD can break it (U19), no other
operation does. -/
abbrev FlagsAgree (n : Nat) (u : Ula) : Prop :=
  u.ph1.tail = (u.ph1.head + u.ph1.count) % n ∧
  (u.hDA.c1 = true ↔ 0 < u.ph1.count) ∧
  (u.pSA.c1 = true ↔ u.ph1.count < n) ∧
  u.hSA.c1 = !u.pDA.c1 ∧
  u.pSA.c2 = !u.hDA.c2 ∧ u.hSA.c2 = !u.pDA.c2 ∧
  u.pSA.c4 = !u.hDA.c4 ∧ u.hSA.c4 = !u.pDA.c4 ∧
  (u.ph3.occ = 0 → u.hDA.c3 = false) ∧ (u.hp3.occ = 0 → u.pDA.c3 = false)

/-- The operation about to be performed is not a LOAD. -/
def NextIsNotLoad (s : State) : Prop :=
  ∀ packet rest tag aux block, s.input = packet :: rest → decode packet ≠ .ok (.load tag aux block)

/-! ## What an operation does to the whole state -/

/-- Everything but the ULA state, the returned value and the events is as before. -/
abbrev SameSession (s t : State) : Prop :=
  t.params = s.params ∧ t.att = s.att ∧ t.sel = s.sel ∧ t.cpu = s.cpu ∧ t.base = s.base ∧ t.preset = s.preset ∧
  t.mult = s.mult ∧ t.aux = s.aux ∧ t.configs = s.configs ∧ t.input = s.input

/-- The lines an attached operation leaves when its own effect leaves the ULA state `u`: each at its derived level
(R241 to R244). -/
def linesFrom (u : Ula) : Ula :=
  { u with
    hirq := u.cr.getLsbD 0 && u.hDA.c4
    pirq := (u.cr.getLsbD 1 && u.pDA.c1) || (u.cr.getLsbD 2 && u.pDA.c4)
    pnmi := u.cr.getLsbD 3 && u.pDA.c3 }

/-- The events of the lines changing from those of `a` to those of `b` (R244, R251). -/
def changeEvents (cpu : CpuTypeDescriptor) (a b : Ula) : List Event :=
  (if b.hirq = a.hirq then [] else [Event.hostIrq b.hirq]) ++
  ((if b.pirq = a.pirq then [] else [Event.parIrq cpu b.pirq]) ++
  (if b.pnmi = a.pnmi then [] else [Event.parNmi cpu b.pnmi]))

/-- `t` is `s` after an attached bus transaction that returned `r` and whose own effect on the registers is `u`: the
lines are recomputed, their changes are the only events, and nothing else changes. -/
abbrev BusEffect (s t : State) (r : Result) (u : Ula) : Prop :=
  SameSession s t ∧ t.result = r ∧ t.ula = linesFrom u ∧ t.events = s.events ++ changeEvents s.cpu s.ula (linesFrom u)

/-- The register state R281 gives for `ClearChannels()`, everything it does not write as in `u`. -/
abbrev Cleared (n : Nat) (u v : Ula) : Prop :=
  v.ph1 = ⟨List.replicate n 0#8, 0, 0, 0⟩ ∧
  v.hp1 = 0#8 ∧ v.ph2 = 0#8 ∧ v.hp2 = 0#8 ∧ v.ph4 = 0#8 ∧ v.hp4 = 0#8 ∧
  v.ph3 = ⟨0#8, 0#8, 0⟩ ∧ v.hp3 = ⟨0#8, 0#8, 0⟩ ∧
  v.hDA = ⟨false, false, false, false⟩ ∧ v.pDA = ⟨false, false, false, false⟩ ∧
  v.hSA = ⟨true, true, true, true⟩ ∧ v.pSA = ⟨true, true, true, true⟩ ∧
  v.cr = u.cr ∧ v.hfl = u.hfl ∧ v.pfl = u.pfl ∧ v.hirq = u.hirq ∧ v.pirq = u.pirq ∧ v.pnmi = u.pnmi

/-! ## The FIFO as a queue, and runs -/

/-- The unread bytes of the channel-1 FIFO, oldest first (R22). -/
def fifoContents (n : Nat) (f : Fifo) : List Byte :=
  (List.range f.count).map fun k => f.bytes.getD ((f.head + k) % n) 0#8

/-- Operations performed one after the other, with what each returned; it stops at the first refusal. -/
def runOps : List Instr → State → Option (List Result × State)
  | [], s => some ([], s)
  | i :: rest, s =>
    match exec i s with
    | .next t => (runOps rest t).map fun out => (t.result :: out.1, out.2)
    | .fault _ => none
    | .refused _ => none

/-! ## The environment's side -/

/-- The parasite may act: a coprocessor is attached and, where `HOLD_STOPS_PARASITE`, reset-hold is not set (R264). The
block does not enforce it (D23). -/
def parasiteMayAct (s : State) : Bool := s.att && !(s.params.holdStopsParasite && s.ula.cr.getLsbD 5)

/-- The constraint on the environment's boot-image answer for a configuration (R194). -/
def bootAnswerAllowed (cfg : TubeConfiguration) : FsAnswer → Bool
  | .noneNeeded => cfg.bootrom == ""
  | .bytes image => cfg.bootrom != "" && (cfg.romsize == 0 || image.length == cfg.romsize)
  | .failed => cfg.bootrom != ""

/-- An operation the environment's contract lets be presented in a state: a parasite transaction only while the parasite
may act (R150, R264), an ATTACH only with an answer R194 allows. -/
def presentable (s : State) (i : Instr) : Bool :=
  match i with
  | .attach fs _ =>
    match usableConfiguration s.configs s.sel with
    | none => true
    | some (cfg, _) => bootAnswerAllowed cfg fs
  | i => match agentOf i with
    | .parasite => parasiteMayAct s
    | .host => true
    | .environment => true

end Sys2Proof.Machine
end

