-- ==== Sys2Proof/Certificates/Slice0/Obligations.lean ====
section
/-! DEFINITION. The statements for the provers: what the numbered rules of spec/ say of the operations, of one step and
of the whole machine. `BusEffect s t r u` (Sys2Proof/Safety.lean) is the frame of every attached bus transaction: the
registers are as in `u` but for the recomputed lines, the line changes are the only events, and nothing else of the state
changes. `N` is `s.params.fifoDepth`. -/

open Sys2Proof Sys2Proof.Machine Sys2Proof.Config

/-! ## Encodings -/

/-- R81, R82: the packet of an operation decodes to that operation, every operand at every value. -/
def Obligations.DecodeOfEncodeIsTheOperation : Prop :=
  ∀ i : Instr, decode (encode i) = .ok i

/-- R93: every BUS13 word is covered by exactly one row of the opcode table, the row of the operation it decodes to. -/
def Obligations.EveryBusWordIsInExactlyOneRow : Prop :=
  ∀ w : BitVec 13, decode (.bus w) = .ok (decodeBus w) ∧
    ∃ r ∈ opcodeRows, r.covers w = true ∧ r.mnemonic = (decodeBus w).mnemonic ∧
      ∀ q ∈ opcodeRows, q.covers w = true → q = r

/-- R81: a write's word loses no bit, a read's word only the data bits, which are ignored and written as 0. -/
def Obligations.EncodingABusWordKeepsItsBits : Prop :=
  ∀ w : BitVec 13,
    (w.getLsbD 11 = true → encode (decodeBus w) = .bus w) ∧
    (w.getLsbD 11 = false → encode (decodeBus w) = .bus (w &&& 0x1F00#13))

/-- R81: bit 12 of the word is the side, bit 11 the direction, bits 10..8 the selector. -/
def Obligations.BusWordFieldsNameTheAccess : Prop :=
  ∀ w : BitVec 13, performerOf (decodeBus w) =
    .bus (if w.getLsbD 12 then .parasite else .host) (if w.getLsbD 11 then .write else .read) (w.extractLsb' 8 3)

/-- R82: the eight event codes with the operands the table lists, and the refusal of codes 8 to 15. -/
def Obligations.ManagementCodesNameTheEvents : Prop :=
  decode (.mgmt 0#4 .nothing) = .ok .hreset ∧
  (∀ source, decode (.mgmt 1#4 (.source source)) = .ok (.loadcfg source)) ∧
  (∀ name, decode (.mgmt 2#4 (.name name)) = .ok (.findcpu name)) ∧
  (∀ index, decode (.mgmt 3#4 (.index index)) = .ok (.select index)) ∧
  (∀ fs initOk, decode (.mgmt 4#4 (.answers fs initOk)) = .ok (.attach fs initOk)) ∧
  (∀ preset, decode (.mgmt 5#4 (.preset preset)) = .ok (.speed preset)) ∧
  decode (.mgmt 6#4 .nothing) = .ok .save ∧
  (∀ tag aux block, decode (.mgmt 7#4 (.saved tag aux block)) = .ok (.load tag aux block)) ∧
  (∀ (code : BitVec 4) (ops : Operands) (s : State) (rest : List Packet), 8 ≤ code.toNat →
    s.input = .mgmt code ops :: rest → step s = .refused (.undecodable (.unassignedCode code)))

/-- R65 (and U12): an access is an operation exactly when it is one byte wide at an address 0 to 7. -/
def Obligations.OnlyByteAccessesToEightAddressesAreOperations : Prop :=
  ∀ (side : Side) (direction : Direction) (address nbytes : Nat) (v : Byte),
    (nbytes = 1 → address < 8 →
      decode (.access side direction address nbytes v) =
        decode (.bus (BitVec.ofNat 13 ((if side = .parasite then 4096 else 0) +
          (if direction = .write then 2048 else 0) + address * 256 + v.toNat)))) ∧
    (nbytes = 1 → 8 ≤ address → decode (.access side direction address nbytes v) = .error (.noSuchAddress address)) ∧
    (nbytes ≠ 1 → decode (.access side direction address nbytes v) = .error (.wideAccess nbytes))

/-- A few words written out from the table of R93, and the operations they stand for. -/
def Obligations.SampleWordsDecode : Prop :=
  decode (.bus 0b0000000000000#13) = .ok .hrS1 ∧
  decode (.bus 0b0010100000000#13) = .ok .hrD3 ∧
  decode (.bus 0b0100010000001#13) = .ok (.hwCtlSet 0b0000001#7) ∧
  decode (.bus 0b0100000100000#13) = .ok (.hwCtlClr 0b0100000#7) ∧
  decode (.bus 0b0101101011010#13) = .ok (.hwD2 0x5A#8) ∧
  decode (.bus 0b1000100000000#13) = .ok .prD1 ∧
  decode (.bus 0b1100100010001#13) = .ok (.pwD1 0x11#8) ∧
  decode (.bus 0b1111100000111#13) = .ok (.pwD4 0x07#8)

/-! ## One step -/

/-- R5, R70: a step takes the first presented packet and performs the whole operation it decodes to; a packet that is no
operation is refused by name; with nothing presented the state stays as it is (the model's choice, log 3). -/
def Obligations.StepPerformsTheNextPresentedOperation : Prop :=
  ∀ s : State,
    (∀ packet rest i, s.input = packet :: rest → decode packet = .ok i → step s = exec i { s with input := rest }) ∧
    (∀ packet rest e, s.input = packet :: rest → decode packet = .error e → step s = .refused (.undecodable e)) ∧
    (s.input = [] → step s = .next s)

/-- Every step keeps the invariant of the state: `N >= 1`, the type constraints of R22, R23 and R28 (count in [0, N],
indices below N, occupancies at most 2), and, while attached, the lines at their derived levels (R244). -/
def Obligations.StepKeepsStateInvariant : Prop :=
  ∀ s t : State, StateInv s → step s = .next t → StateInv t

/-- The invariant holds at power-on. -/
def Obligations.ResetMeetsStateInvariant : Prop :=
  StateInv State.reset

/-- R23, R33: every step but a LOAD keeps the flags in agreement with the buffers. -/
def Obligations.StepKeepsFlagsInAgreement : Prop :=
  ∀ s t : State, StateInv s → FlagsAgree s.params.fifoDepth s.ula → NextIsNotLoad s → step s = .next t →
    FlagsAgree t.params.fifoDepth t.ula

/-- R33: the flags agree with the buffers at power-on. -/
def Obligations.ResetMeetsFlagAgreement : Prop :=
  FlagsAgree State.reset.params.fifoDepth State.reset.ula

/-- R7: no step changes a parameter (that the parameters are fields of the state is the model's choice, log 1). -/
def Obligations.StepKeepsParameters : Prop :=
  ∀ s t : State, step s = .next t → t.params = s.params

/-- R285 (and R47): at power-on the block is detached, with no selection and its lines 0, its registers are those of a
hard reset, and every bus read returns `IDLE`. -/
def Obligations.PowerOnIsDetached : Prop :=
  State.reset.att = false ∧ State.reset.sel = none ∧
  State.reset.ula.hirq = false ∧ State.reset.ula.pirq = false ∧ State.reset.ula.pnmi = false ∧
  Cleared State.reset.params.fifoDepth State.reset.ula State.reset.ula ∧
  State.reset.ula.cr = 0#7 ∧ State.reset.ula.hfl = 0#8 ∧ State.reset.ula.pfl = 0#8 ∧
  (∀ i side address, performerOf i = .bus side .read address →
    ∃ t, exec i State.reset = .next t ∧ t.result = .byte State.reset.params.idle)

/-! ## Rules over all operations -/

/-- R63 (R110, R150, R248): while detached a bus transaction of either side changes nothing, and a read returns `IDLE`. -/
def Obligations.DetachedBusTransactionsAreNoOps : Prop :=
  ∀ (i : Instr) (s : State), s.att = false →
    (∀ side address, performerOf i = .bus side .read address →
      exec i s = .next { s with result := .byte s.params.idle }) ∧
    (∀ side address, performerOf i = .bus side .write address →
      exec i s = .next { s with result := .nothing })

/-- R241 to R244 (and R222, R245): at the end of every attached bus transaction, HRESET, ATTACH and LOAD the three lines
are at the levels of R241 to R243, whatever the state was before. -/
def Obligations.LinesAreDerivedAfterEveryRecompute : Prop :=
  ∀ (i : Instr) (s t : State), exec i s = .next t → t.att = true →
    (agentOf i ≠ .environment ∨ i = .hreset ∨ (∃ fs ok, i = .attach fs ok) ∨ ∃ tag aux block, i = .load tag aux block) →
    LinesCurrent t.ula

/-- R248: while detached the three lines the environment observes are 0, `UpdateInts()` returns at once, and no operation
that starts detached calls a line's setter or the coprocessor's `reset()`, a LOAD and the next ATTACH included; while
attached the observed lines are the cached ones (R39). That the observed lines are told apart from the cached lines of a
state loaded while detached is the model's reading of R222 and R248 (log 12). -/
def Obligations.WhileDetachedLinesAreLowAndNoSetterIsCalled : Prop :=
  ∀ s : State,
    (s.att = true →
      s.hostIrqLine = s.ula.hirq ∧ s.parIrqLine = s.ula.pirq ∧ s.parNmiLine = s.ula.pnmi) ∧
    (s.att = false →
      s.hostIrqLine = false ∧ s.parIrqLine = false ∧ s.parNmiLine = false ∧ updateInts s = s ∧
      ∀ (i : Instr) (t : State), exec i s = .next t →
        ∃ new, t.events = s.events ++ new ∧
          ∀ c b, Event.hostIrq b ∉ new ∧ Event.parIrq c b ∉ new ∧ Event.parNmi c b ∉ new ∧ Event.cpuReset c ∉ new)

/-- R247, R251: a bus transaction calls a line's setter exactly when that line changed, once, with the new level, and
the attached CPU's where the line is the parasite's. -/
def Obligations.SettersAreCalledExactlyOnChanges : Prop :=
  ∀ (i : Instr) (s t : State), agentOf i ≠ .environment → exec i s = .next t →
    ∃ new, t.events = s.events ++ new ∧ new.Nodup ∧
      (∀ b, Event.hostIrq b ∈ new ↔ s.ula.hirq ≠ t.ula.hirq ∧ b = t.ula.hirq) ∧
      (∀ c b, Event.parIrq c b ∈ new ↔ s.ula.pirq ≠ t.ula.pirq ∧ c = s.cpu ∧ b = t.ula.pirq) ∧
      (∀ c b, Event.parNmi c b ∈ new ↔ s.ula.pnmi ≠ t.ula.pnmi ∧ c = s.cpu ∧ b = t.ula.pnmi)

/-- R247: in a state of the invariant a status read, an ignored write, a dropped write and a stale re-read emit nothing. -/
def Obligations.QuietOperationsEmitNothing : Prop :=
  ∀ (i : Instr) (s t : State), StateInv s → s.att = true → exec i s = .next t →
    (i ∈ [.hrS1, .hrS2, .hrS3, .hrS4, .prS1, .prS2, .prS3, .prS4] ∨
      (∃ v, i ∈ [.hwS2 v, .hwS3 v, .hwS4 v, .pwS1 v, .pwS2 v, .pwS3 v, .pwS4 v]) ∨
      (∃ v, i = .pwD1 v ∧ s.ula.ph1.count = s.params.fifoDepth) ∨
      (∃ v, i = .hwD3 v ∧ (if s.ula.cr.getLsbD 4 then 2 else 1) ≤ s.ula.hp3.occ) ∨
      (∃ v, i = .pwD3 v ∧ (if s.ula.cr.getLsbD 4 then 2 else 1) ≤ s.ula.ph3.occ) ∨
      (i = .hrD2 ∧ s.ula.hDA.c2 = false) ∨ (i = .hrD4 ∧ s.ula.hDA.c4 = false) ∨
      (i = .prD1 ∧ s.ula.pDA.c1 = false) ∨ (i = .prD2 ∧ s.ula.pDA.c2 = false) ∨
      (i = .prD4 ∧ s.ula.pDA.c4 = false)) →
    t.events = s.events ∧ t.ula.hirq = s.ula.hirq ∧ t.ula.pirq = s.ula.pirq ∧ t.ula.pnmi = s.ula.pnmi

/-- R36: CR is changed only by the two control writes, HRESET, ATTACH (through its hard reset) and LOAD. -/
def Obligations.OnlyControlWritesResetsAndLoadsChangeCR : Prop :=
  ∀ (i : Instr) (s t : State), exec i s = .next t → t.ula.cr ≠ s.ula.cr →
    (∃ m, i = .hwCtlSet m) ∨ (∃ m, i = .hwCtlClr m) ∨ i = .hreset ∨ (∃ fs ok, i = .attach fs ok) ∨
    ∃ tag aux block, i = .load tag aux block

/-- R260: the parasite never writes CR, HFL or the host-to-parasite buffers (HP1, HP2, HP4; of HP3 it only pops, which
moves slot 1 down), sets no data flag of its own, and never pops the parasite-to-host paths (FIFO head, count and PH3
occupancy do not go back, the host's data flags are not cleared). The host never writes PFL, and, but for a soft reset,
never writes the parasite-to-host buffers (FIFO storage and tail, PH2, PH4; of PH3 it only pops), sets no data flag of
its own, and never pops the host-to-parasite paths (HP3 occupancy does not go back, the parasite's data flags are not
cleared). LOADCFG, FINDCPU, SPEED and SAVE change no register at all, and SELECT none but the lines. -/
def Obligations.SidesKeepToTheirRights : Prop :=
  ∀ (i : Instr) (s t : State), exec i s = .next t →
    (agentOf i = .parasite →
      t.ula.cr = s.ula.cr ∧ t.ula.hfl = s.ula.hfl ∧ t.ula.hp1 = s.ula.hp1 ∧ t.ula.hp2 = s.ula.hp2 ∧
      t.ula.hp4 = s.ula.hp4 ∧
      (t.ula.hp3 = s.ula.hp3 ∨ t.ula.hp3 = ⟨s.ula.hp3.slot1, s.ula.hp3.slot1, s.ula.hp3.occ - 1⟩) ∧
      (t.ula.pDA.c1 = true → s.ula.pDA.c1 = true) ∧ (t.ula.pDA.c2 = true → s.ula.pDA.c2 = true) ∧
      (t.ula.pDA.c3 = true → s.ula.pDA.c3 = true) ∧ (t.ula.pDA.c4 = true → s.ula.pDA.c4 = true) ∧
      t.ula.ph1.head = s.ula.ph1.head ∧ s.ula.ph1.count ≤ t.ula.ph1.count ∧ s.ula.ph3.occ ≤ t.ula.ph3.occ ∧
      (s.ula.hDA.c1 = true → t.ula.hDA.c1 = true) ∧ (s.ula.hDA.c2 = true → t.ula.hDA.c2 = true) ∧
      (s.ula.hDA.c3 = true → t.ula.hDA.c3 = true) ∧ (s.ula.hDA.c4 = true → t.ula.hDA.c4 = true)) ∧
    (agentOf i = .host →
      t.ula.pfl = s.ula.pfl ∧
      ((∀ m, i = .hwCtlSet m → ¬ (s.ula.cr.getLsbD 6 = false ∧ m.getLsbD 6 = true)) →
        t.ula.ph1.bytes = s.ula.ph1.bytes ∧ t.ula.ph1.tail = s.ula.ph1.tail ∧
        t.ula.ph1.count ≤ s.ula.ph1.count ∧ t.ula.ph2 = s.ula.ph2 ∧ t.ula.ph4 = s.ula.ph4 ∧
        (t.ula.ph3 = s.ula.ph3 ∨ t.ula.ph3 = ⟨s.ula.ph3.slot1, s.ula.ph3.slot1, s.ula.ph3.occ - 1⟩) ∧
        (t.ula.hDA.c1 = true → s.ula.hDA.c1 = true) ∧ (t.ula.hDA.c2 = true → s.ula.hDA.c2 = true) ∧
        (t.ula.hDA.c3 = true → s.ula.hDA.c3 = true) ∧ (t.ula.hDA.c4 = true → s.ula.hDA.c4 = true) ∧
        s.ula.hp3.occ ≤ t.ula.hp3.occ ∧
        (s.ula.pDA.c1 = true → t.ula.pDA.c1 = true) ∧ (s.ula.pDA.c2 = true → t.ula.pDA.c2 = true) ∧
        (s.ula.pDA.c3 = true → t.ula.pDA.c3 = true) ∧ (s.ula.pDA.c4 = true → t.ula.pDA.c4 = true))) ∧
    (((∃ source, i = .loadcfg source) ∨ (∃ name, i = .findcpu name) ∨ (∃ p, i = .speed p) ∨ i = .save) →
      t.ula = s.ula) ∧
    ((∃ index, i = .select index) →
      t.ula = { s.ula with hirq := t.ula.hirq, pirq := t.ula.pirq, pnmi := t.ula.pnmi })

/-- R121, R286: the only operation that calls a coprocessor's `reset()` is a clear-mode control write that releases the
reset-hold of an attached coprocessor, and it calls it once, as its last event. -/
def Obligations.OnlyTheReleaseOfHoldCallsCpuReset : Prop :=
  ∀ (i : Instr) (s t : State), exec i s = .next t →
    ∃ new, t.events = s.events ++ new ∧
      ∀ c, Event.cpuReset c ∈ new →
        s.att = true ∧ c = s.cpu ∧ s.ula.cr.getLsbD 5 = true ∧ t.ula.cr.getLsbD 5 = false ∧
        (∃ m, i = .hwCtlClr m) ∧ new.getLast? = some (.cpuReset c) ∧ new.count (.cpuReset c) = 1

/-! ## Host reads -/

/-- R111, R113, R115, R117 (and R85, R86): the four host status reads. That channel 1 shows CR[5:0] and channel 3 has the
layout of channels 2 and 4 are the spec's own decisions D5 and D3 (log 19). -/
def Obligations.HostStatusReadsReturnTheHostView : Prop :=
  ∀ s : State, s.att = true →
    (∃ t v, exec .hrS1 s = .next t ∧ BusEffect s t (.byte v) s.ula ∧
      v.toNat = s.ula.hDA.c1.toNat * 128 + s.ula.hSA.c1.toNat * 64 + s.ula.cr.toNat % 64) ∧
    (∃ t v, exec .hrS2 s = .next t ∧ BusEffect s t (.byte v) s.ula ∧
      v.toNat = s.ula.hDA.c2.toNat * 128 + s.ula.hSA.c2.toNat * 64) ∧
    (∃ t v, exec .hrS3 s = .next t ∧ BusEffect s t (.byte v) s.ula ∧
      v.toNat = s.ula.hDA.c3.toNat * 128 + s.ula.hSA.c3.toNat * 64) ∧
    (∃ t v, exec .hrS4 s = .next t ∧ BusEffect s t (.byte v) s.ula ∧
      v.toNat = s.ula.hDA.c4.toNat * 128 + s.ula.hSA.c4.toNat * 64) ∧
    encode .hrS1 = .bus 0x0000#13 ∧ encode .hrS2 = .bus 0x0200#13 ∧
    encode .hrS3 = .bus 0x0400#13 ∧ encode .hrS4 = .bus 0x0600#13

/-- R112: the host read of the FIFO. -/
def Obligations.HostFifoReadPopsOrFallsBack : Prop :=
  ∀ s : State, s.att = true →
    (0 < s.ula.ph1.count →
      ∃ t, exec .hrD1 s = .next t ∧
        BusEffect s t (.byte (s.ula.ph1.bytes.getD s.ula.ph1.head 0#8))
          { s.ula with
            ph1 := { s.ula.ph1 with
              head := (s.ula.ph1.head + 1) % s.params.fifoDepth, count := s.ula.ph1.count - 1 }
            hDA := { s.ula.hDA with c1 := s.ula.hDA.c1 && decide (1 < s.ula.ph1.count) }
            pSA := { s.ula.pSA with c1 := true } }) ∧
    (s.ula.ph1.count = 0 → ∃ t, exec .hrD1 s = .next t ∧ BusEffect s t (.byte s.ula.hfl) s.ula) ∧
    encode .hrD1 = .bus 0x0100#13

/-- R114, R118: the host reads of the latches PH2 and PH4. -/
def Obligations.HostLatchReadsReturnTheLatch : Prop :=
  ∀ s : State, s.att = true →
    (∃ t, exec .hrD2 s = .next t ∧
      BusEffect s t (.byte s.ula.ph2)
        { s.ula with hDA := { s.ula.hDA with c2 := false }, pSA := { s.ula.pSA with c2 := true } }) ∧
    (∃ t, exec .hrD4 s = .next t ∧
      BusEffect s t (.byte s.ula.ph4)
        { s.ula with hDA := { s.ula.hDA with c4 := false }, pSA := { s.ula.pSA with c4 := true } }) ∧
    encode .hrD2 = .bus 0x0300#13 ∧ encode .hrD4 = .bus 0x0700#13

/-- R116: the host read of the shift buffer PH3. -/
def Obligations.HostShiftReadPopsOrFallsBack : Prop :=
  ∀ s : State, s.att = true →
    (0 < s.ula.ph3.occ →
      ∃ t, exec .hrD3 s = .next t ∧
        BusEffect s t (.byte s.ula.ph3.slot0)
          { s.ula with
            ph3 := ⟨s.ula.ph3.slot1, s.ula.ph3.slot1, s.ula.ph3.occ - 1⟩
            hDA := { s.ula.hDA with c3 := s.ula.hDA.c3 && decide (1 < s.ula.ph3.occ) }
            pSA := { s.ula.pSA with c3 := true } }) ∧
    (s.ula.ph3.occ = 0 → ∃ t, exec .hrD3 s = .next t ∧ BusEffect s t (.byte s.ula.hfl) s.ula) ∧
    encode .hrD3 = .bus 0x0500#13

/-! ## Host writes -/

/-- R120: the control write in set-bits mode, over the control byte `v` with `v[7] = 1`. -/
def Obligations.SetModeControlWrite : Prop :=
  ∀ (s : State) (v : Byte), s.att = true → v.getLsbD 7 = true →
    (¬ (s.ula.cr.getLsbD 6 = false ∧ v.getLsbD 6 = true) →
      ∃ t, exec (.hwCtlSet (v.extractLsb' 0 7)) s = .next t ∧
        BusEffect s t .nothing { s.ula with hfl := v, cr := s.ula.cr ||| v.extractLsb' 0 7 }) ∧
    (s.ula.cr.getLsbD 6 = false ∧ v.getLsbD 6 = true →
      ∃ t u, exec (.hwCtlSet (v.extractLsb' 0 7)) s = .next t ∧
        Cleared s.params.fifoDepth { s.ula with hfl := v, cr := s.ula.cr ||| v.extractLsb' 0 7 } u ∧
        BusEffect s t .nothing u) ∧
    decode (.bus (0x0800#13 + v.setWidth 13)) = .ok (.hwCtlSet (v.extractLsb' 0 7))

/-- R121: the control write in clear-bits mode, over the control byte `v` with `v[7] = 0`; the coprocessor's `reset()` is
called once, after everything else, exactly when P goes from 1 to 0. -/
def Obligations.ClearModeControlWrite : Prop :=
  ∀ (s : State) (v : Byte), s.att = true → v.getLsbD 7 = false →
    (∃ u, BusEffect s u .nothing { s.ula with hfl := v, cr := s.ula.cr &&& ~~~(v.extractLsb' 0 7) } ∧
      (s.ula.cr.getLsbD 5 = true ∧ v.getLsbD 5 = true →
        exec (.hwCtlClr (v.extractLsb' 0 7)) s = .next { u with events := u.events ++ [.cpuReset s.cpu] }) ∧
      (¬ (s.ula.cr.getLsbD 5 = true ∧ v.getLsbD 5 = true) →
        exec (.hwCtlClr (v.extractLsb' 0 7)) s = .next u)) ∧
    decode (.bus (0x0800#13 + v.setWidth 13)) = .ok (.hwCtlClr (v.extractLsb' 0 7))

/-- R122, R124, R128 (and R119, R129): the host writes of the latches HP1, HP2 and HP4, unread byte or not. -/
def Obligations.HostLatchWritesStoreAndFlag : Prop :=
  ∀ (s : State) (v : Byte), s.att = true →
    (∃ t, exec (.hwD1 v) s = .next t ∧
      BusEffect s t .nothing { s.ula with
        hfl := v, hp1 := v, pDA := { s.ula.pDA with c1 := true }, hSA := { s.ula.hSA with c1 := false } }) ∧
    (∃ t, exec (.hwD2 v) s = .next t ∧
      BusEffect s t .nothing { s.ula with
        hfl := v, hp2 := v, pDA := { s.ula.pDA with c2 := true }, hSA := { s.ula.hSA with c2 := false } }) ∧
    (∃ t, exec (.hwD4 v) s = .next t ∧
      BusEffect s t .nothing { s.ula with
        hfl := v, hp4 := v, pDA := { s.ula.pDA with c4 := true }, hSA := { s.ula.hSA with c4 := false } }) ∧
    encode (.hwD1 v) = .bus (0x0900#13 + v.setWidth 13) ∧ encode (.hwD2 v) = .bus (0x0B00#13 + v.setWidth 13) ∧
    encode (.hwD4 v) = .bus (0x0F00#13 + v.setWidth 13)

/-- R123, R125, R127 (and R119): the host writes of the status addresses 2, 4 and 6 load HFL and nothing else. -/
def Obligations.IgnoredHostWritesLoadHflOnly : Prop :=
  ∀ (s : State) (v : Byte), s.att = true →
    (∃ t, exec (.hwS2 v) s = .next t ∧ BusEffect s t .nothing { s.ula with hfl := v }) ∧
    (∃ t, exec (.hwS3 v) s = .next t ∧ BusEffect s t .nothing { s.ula with hfl := v }) ∧
    (∃ t, exec (.hwS4 v) s = .next t ∧ BusEffect s t .nothing { s.ula with hfl := v }) ∧
    encode (.hwS2 v) = .bus (0x0A00#13 + v.setWidth 13) ∧ encode (.hwS3 v) = .bus (0x0C00#13 + v.setWidth 13) ∧
    encode (.hwS4 v) = .bus (0x0E00#13 + v.setWidth 13)

/-- R126: the host write of the shift buffer HP3, by width and occupancy. -/
def Obligations.HostShiftWriteByWidthAndOccupancy : Prop :=
  ∀ (s : State) (v : Byte), s.att = true →
    (s.ula.cr.getLsbD 4 = false → s.ula.hp3.occ = 0 →
      ∃ t, exec (.hwD3 v) s = .next t ∧
        BusEffect s t .nothing { s.ula with
          hfl := v, hp3 := ⟨v, s.ula.hp3.slot1, 1⟩
          pDA := { s.ula.pDA with c3 := true }, hSA := { s.ula.hSA with c3 := false } }) ∧
    (s.ula.cr.getLsbD 4 = true → s.ula.hp3.occ = 0 →
      ∃ t, exec (.hwD3 v) s = .next t ∧
        BusEffect s t .nothing { s.ula with hfl := v, hp3 := ⟨v, s.ula.hp3.slot1, 1⟩ }) ∧
    (s.ula.cr.getLsbD 4 = true → s.ula.hp3.occ = 1 →
      ∃ t, exec (.hwD3 v) s = .next t ∧
        BusEffect s t .nothing { s.ula with
          hfl := v, hp3 := ⟨s.ula.hp3.slot0, v, 2⟩
          pDA := { s.ula.pDA with c3 := true }, hSA := { s.ula.hSA with c3 := false } }) ∧
    ((if s.ula.cr.getLsbD 4 then 2 else 1) ≤ s.ula.hp3.occ →
      ∃ t, exec (.hwD3 v) s = .next t ∧ BusEffect s t .nothing { s.ula with hfl := v }) ∧
    encode (.hwD3 v) = .bus (0x0D00#13 + v.setWidth 13)

/-! ## Parasite reads -/

/-- R151, R153, R155, R157 (and R85, R86): the four parasite status reads. That channel 1 shows CR[5:0] to the parasite
too and channel 3 has the layout of channels 2 and 4 are the spec's own decisions D5 and D3 (log 19). -/
def Obligations.ParasiteStatusReadsReturnTheParasiteView : Prop :=
  ∀ s : State, s.att = true →
    (∃ t v, exec .prS1 s = .next t ∧ BusEffect s t (.byte v) s.ula ∧
      v.toNat = s.ula.pDA.c1.toNat * 128 + s.ula.pSA.c1.toNat * 64 + s.ula.cr.toNat % 64) ∧
    (∃ t v, exec .prS2 s = .next t ∧ BusEffect s t (.byte v) s.ula ∧
      v.toNat = s.ula.pDA.c2.toNat * 128 + s.ula.pSA.c2.toNat * 64) ∧
    (∃ t v, exec .prS3 s = .next t ∧ BusEffect s t (.byte v) s.ula ∧
      v.toNat = s.ula.pDA.c3.toNat * 128 + s.ula.pSA.c3.toNat * 64) ∧
    (∃ t v, exec .prS4 s = .next t ∧ BusEffect s t (.byte v) s.ula ∧
      v.toNat = s.ula.pDA.c4.toNat * 128 + s.ula.pSA.c4.toNat * 64) ∧
    encode .prS1 = .bus 0x1000#13 ∧ encode .prS2 = .bus 0x1200#13 ∧
    encode .prS3 = .bus 0x1400#13 ∧ encode .prS4 = .bus 0x1600#13

/-- R152, R154, R158: the parasite reads of the latches HP1, HP2 and HP4. -/
def Obligations.ParasiteLatchReadsReturnTheLatch : Prop :=
  ∀ s : State, s.att = true →
    (∃ t, exec .prD1 s = .next t ∧
      BusEffect s t (.byte s.ula.hp1)
        { s.ula with pDA := { s.ula.pDA with c1 := false }, hSA := { s.ula.hSA with c1 := true } }) ∧
    (∃ t, exec .prD2 s = .next t ∧
      BusEffect s t (.byte s.ula.hp2)
        { s.ula with pDA := { s.ula.pDA with c2 := false }, hSA := { s.ula.hSA with c2 := true } }) ∧
    (∃ t, exec .prD4 s = .next t ∧
      BusEffect s t (.byte s.ula.hp4)
        { s.ula with pDA := { s.ula.pDA with c4 := false }, hSA := { s.ula.hSA with c4 := true } }) ∧
    encode .prD1 = .bus 0x1100#13 ∧ encode .prD2 = .bus 0x1300#13 ∧ encode .prD4 = .bus 0x1700#13

/-- R156: the parasite read of the shift buffer HP3. -/
def Obligations.ParasiteShiftReadPopsOrFallsBack : Prop :=
  ∀ s : State, s.att = true →
    (0 < s.ula.hp3.occ →
      ∃ t, exec .prD3 s = .next t ∧
        BusEffect s t (.byte s.ula.hp3.slot0)
          { s.ula with
            hp3 := ⟨s.ula.hp3.slot1, s.ula.hp3.slot1, s.ula.hp3.occ - 1⟩
            pDA := { s.ula.pDA with c3 := s.ula.pDA.c3 && decide (1 < s.ula.hp3.occ) }
            hSA := { s.ula.hSA with c3 := true } }) ∧
    (s.ula.hp3.occ = 0 → ∃ t, exec .prD3 s = .next t ∧ BusEffect s t (.byte s.ula.pfl) s.ula) ∧
    encode .prD3 = .bus 0x1500#13

/-! ## Parasite writes -/

/-- R160, R162, R164, R166 (and R159): the parasite writes of the status addresses load PFL and nothing else. -/
def Obligations.IgnoredParasiteWritesLoadPflOnly : Prop :=
  ∀ (s : State) (v : Byte), s.att = true →
    (∃ t, exec (.pwS1 v) s = .next t ∧ BusEffect s t .nothing { s.ula with pfl := v }) ∧
    (∃ t, exec (.pwS2 v) s = .next t ∧ BusEffect s t .nothing { s.ula with pfl := v }) ∧
    (∃ t, exec (.pwS3 v) s = .next t ∧ BusEffect s t .nothing { s.ula with pfl := v }) ∧
    (∃ t, exec (.pwS4 v) s = .next t ∧ BusEffect s t .nothing { s.ula with pfl := v }) ∧
    encode (.pwS1 v) = .bus (0x1800#13 + v.setWidth 13) ∧ encode (.pwS2 v) = .bus (0x1A00#13 + v.setWidth 13) ∧
    encode (.pwS3 v) = .bus (0x1C00#13 + v.setWidth 13) ∧ encode (.pwS4 v) = .bus (0x1E00#13 + v.setWidth 13)

/-- R161: the parasite write of the FIFO, accepted below N, dropped at N. -/
def Obligations.ParasiteFifoWritePushesOrDrops : Prop :=
  ∀ (s : State) (v : Byte), s.att = true →
    (s.ula.ph1.count < s.params.fifoDepth →
      ∃ t, exec (.pwD1 v) s = .next t ∧
        BusEffect s t .nothing { s.ula with
          pfl := v
          ph1 := ⟨s.ula.ph1.bytes.set s.ula.ph1.tail v, s.ula.ph1.head,
            (s.ula.ph1.tail + 1) % s.params.fifoDepth, s.ula.ph1.count + 1⟩
          hDA := { s.ula.hDA with c1 := true }
          pSA := { s.ula.pSA with c1 := s.ula.pSA.c1 && decide (s.ula.ph1.count + 1 ≠ s.params.fifoDepth) } }) ∧
    (s.params.fifoDepth ≤ s.ula.ph1.count →
      ∃ t, exec (.pwD1 v) s = .next t ∧ BusEffect s t .nothing { s.ula with pfl := v }) ∧
    encode (.pwD1 v) = .bus (0x1900#13 + v.setWidth 13)

/-- R163, R167: the parasite writes of the latches PH2 and PH4, unread byte or not. -/
def Obligations.ParasiteLatchWritesStoreAndFlag : Prop :=
  ∀ (s : State) (v : Byte), s.att = true →
    (∃ t, exec (.pwD2 v) s = .next t ∧
      BusEffect s t .nothing { s.ula with
        pfl := v, ph2 := v, hDA := { s.ula.hDA with c2 := true }, pSA := { s.ula.pSA with c2 := false } }) ∧
    (∃ t, exec (.pwD4 v) s = .next t ∧
      BusEffect s t .nothing { s.ula with
        pfl := v, ph4 := v, hDA := { s.ula.hDA with c4 := true }, pSA := { s.ula.pSA with c4 := false } }) ∧
    encode (.pwD2 v) = .bus (0x1B00#13 + v.setWidth 13) ∧ encode (.pwD4 v) = .bus (0x1F00#13 + v.setWidth 13)

/-- R165: the parasite write of the shift buffer PH3, by width and occupancy. -/
def Obligations.ParasiteShiftWriteByWidthAndOccupancy : Prop :=
  ∀ (s : State) (v : Byte), s.att = true →
    (s.ula.cr.getLsbD 4 = false → s.ula.ph3.occ = 0 →
      ∃ t, exec (.pwD3 v) s = .next t ∧
        BusEffect s t .nothing { s.ula with
          pfl := v, ph3 := ⟨v, s.ula.ph3.slot1, 1⟩
          hDA := { s.ula.hDA with c3 := true }, pSA := { s.ula.pSA with c3 := false } }) ∧
    (s.ula.cr.getLsbD 4 = true → s.ula.ph3.occ = 0 →
      ∃ t, exec (.pwD3 v) s = .next t ∧
        BusEffect s t .nothing { s.ula with pfl := v, ph3 := ⟨v, s.ula.ph3.slot1, 1⟩ }) ∧
    (s.ula.cr.getLsbD 4 = true → s.ula.ph3.occ = 1 →
      ∃ t, exec (.pwD3 v) s = .next t ∧
        BusEffect s t .nothing { s.ula with
          pfl := v, ph3 := ⟨s.ula.ph3.slot0, v, 2⟩
          hDA := { s.ula.hDA with c3 := true }, pSA := { s.ula.pSA with c3 := false } }) ∧
    ((if s.ula.cr.getLsbD 4 then 2 else 1) ≤ s.ula.ph3.occ →
      ∃ t, exec (.pwD3 v) s = .next t ∧ BusEffect s t .nothing { s.ula with pfl := v }) ∧
    encode (.pwD3 v) = .bus (0x1D00#13 + v.setWidth 13)

/-! ## Management events -/

/-- R282, R283 (and R281): HRESET while attached is a hard reset, with the falls of the lines as its only events; while
detached it does nothing (the spec leaves the unobservable registers open there; the model's choice, log 22). -/
def Obligations.HresetIsAHardResetWhileAttached : Prop :=
  ∀ s : State,
    (s.att = true →
      ∃ t u, exec .hreset s = .next t ∧
        Cleared s.params.fifoDepth { s.ula with cr := 0#7, hfl := 0#8, pfl := 0#8 } u ∧
        BusEffect s t .nothing u ∧ t.ula.hirq = false ∧ t.ula.pirq = false ∧ t.ula.pnmi = false) ∧
    (s.att = false → exec .hreset s = .next { s with result := .nothing })

/-- R191: FINDCPU returns a catalog entry of that name, or not-found exactly when there is none, and writes no state (names
compared exactly: log 21). -/
def Obligations.FindcpuIsAPureLookup : Prop :=
  ∀ (s : State) (name : String),
    ∃ d, exec (.findcpu name) s = .next { s with result := .descriptor d } ∧
      (∀ c, d = some c → c ∈ s.params.catalog ∧ c.name = name) ∧
      (d = none ↔ ∀ c ∈ s.params.catalog, c.name ≠ name)

/-- R192 (and U21, U28): LOADCFG of a source with no tube section installs the built-in list; of sections that all carry
`speed`, one configuration for each section, in order, its descriptor FINDCPU's answer or unusable; of a source with a
section that lacks `speed`, it is refused. That an absent `cpu` key is unusable is the model's choice (log 20). -/
def Obligations.LoadcfgInstallsOneConfigurationPerSection : Prop :=
  ∀ (s : State) (source : List ConfigSection),
    (source = [] →
      exec (.loadcfg source) s =
        .next { s with configs := s.params.defaultConfigs, result := .configurations s.params.defaultConfigs }) ∧
    (source ≠ [] → (∀ sec ∈ source, sec.speed ≠ none) →
      ∃ configs : List TubeConfiguration,
        exec (.loadcfg source) s = .next { s with configs := configs, result := .configurations configs } ∧
        configs.length = source.length ∧
        ∀ (k : Nat) (sec : ConfigSection), source[k]? = some sec → ∃ cfg : TubeConfiguration, configs[k]? = some cfg ∧
          cfg.name = sec.name.getD "" ∧ cfg.romsize = sec.romsize.getD 0 ∧ cfg.bootrom = sec.bootrom.getD "" ∧
          sec.speed = some cfg.speed ∧
          (∀ name cpu, sec.name = some name → sec.cpu = some cpu →
            exec (.findcpu cpu) s = .next { s with result := .descriptor cfg.cpu }) ∧
          (sec.name = none ∨ sec.cpu = none → cfg.cpu = none)) ∧
    ((∃ sec ∈ source, sec.speed = none) → exec (.loadcfg source) s = .refused .speedMissing)

/-- R193, R197: SELECT of a usable entry only stores the index; none, a negative or out-of-range index or an unusable
entry deselects and detaches, with one `HostIRQ(0)` if an attached block held the host line. -/
def Obligations.SelectStoresAUsableIndexOrDetaches : Prop :=
  ∀ s : State,
    (∀ k cfg cpu, s.configs[k]? = some cfg → cfg.cpu = some cpu →
      exec (.select (some (Int.ofNat k))) s =
        .next { s with sel := some k, result := .configuration (some cfg) }) ∧
    (∀ index : Option Int,
      (index = none ∨ ∃ z, index = some z ∧
        (z < 0 ∨ (s.configs.length : Int) ≤ z ∨ ∃ cfg, s.configs[z.toNat]? = some cfg ∧ cfg.cpu = none)) →
      exec (.select index) s =
        .next { s with
          sel := none, att := false, ula := { s.ula with hirq := false, pirq := false, pnmi := false }
          result := .configuration none
          events := s.events ++ (if s.att = true ∧ s.ula.hirq = true then [Event.hostIrq false] else []) })

/-- R195, R200 (and R47, R282): a successful ATTACH of a usable selection, in every state. Its hard reset emits no line
event, as R195 says of a block whose lines are 0 already; that this also holds of a block loaded while detached with
cached lines of 1, where R195's pseudocode alone would emit falls, is the model's reading of R195 and R248 (log 12). -/
def Obligations.AttachOfAUsableSelectionSucceeds : Prop :=
  ∀ (s : State) (k : Nat) (cfg : TubeConfiguration) (cpu : CpuTypeDescriptor) (fs : FsAnswer)
    (image : Option (List Byte)),
    s.sel = some k → s.configs[k]? = some cfg → cfg.cpu = some cpu →
    (fs = .noneNeeded ∧ image = none ∨ ∃ bytes, fs = .bytes bytes ∧ image = some bytes) →
    exec (.attach fs true) s =
      .next { s with
        att := true, cpu := cpu, base := cfg.speed, mult := s.preset * cfg.speed / 2
        ula := Ula.fresh s.params.fifoDepth
        result := .nothing
        events := s.events ++ (if s.att = true ∧ s.ula.hirq = true then [Event.hostIrq false] else []) ++
          [Event.cpuInit cpu image] }

/-- R195, R197: an ATTACH with no selection, with a failed boot image, or with an initializer that fails leaves the block
detached and deselected; the resource error is logged once and the initializer is not called. -/
def Obligations.AttachFailuresLeaveTheBlockDetached : Prop :=
  ∀ s : State,
    let d : State :=
      if s.att = true then
        { s with
          att := false, ula := { s.ula with hirq := false, pirq := false, pnmi := false }
          events := s.events ++ (if s.ula.hirq = true then [Event.hostIrq false] else []) }
      else s
    (s.sel = none → ∀ fs ok, exec (.attach fs ok) s = .next { d with result := .nothing }) ∧
    (∀ k cfg cpu, s.sel = some k → s.configs[k]? = some cfg → cfg.cpu = some cpu →
      (∀ ok, exec (.attach .failed ok) s =
        .next { d with sel := none, result := .nothing, events := d.events ++ [Event.logResourceError] }) ∧
      exec (.attach .noneNeeded false) s =
        .next { d with sel := none, result := .nothing, events := d.events ++ [Event.cpuInit cpu none] } ∧
      ∀ bytes, exec (.attach (.bytes bytes) false) s =
        .next { d with sel := none, result := .nothing, events := d.events ++ [Event.cpuInit cpu (some bytes)] })

/-- The model's choice (log 13): an ATTACH whose selected entry no longer exists, or is unusable, because LOADCFG ran
after SELECT, calls no initializer and leaves the block detached and deselected. -/
def Obligations.AttachOfAVanishedSelectionDetaches : Prop :=
  ∀ (s : State) (k : Nat) (fs : FsAnswer) (ok : Bool), s.sel = some k →
    (s.configs[k]? = none ∨ ∃ cfg, s.configs[k]? = some cfg ∧ cfg.cpu = none) →
    ∃ t, exec (.attach fs ok) s = .next t ∧ t.att = false ∧ t.sel = none ∧
      t.events = s.events ++ (if s.att = true ∧ s.ula.hirq = true then [Event.hostIrq false] else [])

/-- R201, R200: SPEED stores the preset and, while attached, recomputes the multiplier. -/
def Obligations.SpeedStoresPresetAndRecomputes : Prop :=
  ∀ (s : State) (p : Nat),
    (s.att = true → exec (.speed p) s = .next { s with preset := p, mult := p * s.base / 2, result := .nothing }) ∧
    (s.att = false → exec (.speed p) s = .next { s with preset := p, result := .nothing })

/-- R221 (and R94): SAVE returns version byte, AUX byte and state block, of one length for every state, and changes
nothing. -/
def Obligations.SaveReturnsVersionAuxAndBlock : Prop :=
  ∀ s : State, ∃ block,
    exec .save s = .next { s with result := .saved ([2#8] ++ [codec.auxByte s.aux] ++ block) } ∧
    block = codec.encode2 s.params.fifoDepth s.ula ∧
    ∀ u : Ula, (codec.encode2 s.params.fifoDepth u).length = block.length

/-- R222 (and R244, R248): LOAD with tag 2 of a block of the current length whose fields are in range. While detached the
loaded state is kept as it is, cached lines included, and the observed lines stay 0: log 12, between R222 and R248. -/
def Obligations.LoadOfTheCurrentLayoutReplacesTheState : Prop :=
  ∀ (s : State) (aux : Byte) (block : List Byte) (u : Ula),
    block.length = codec.blockLength s.params.fifoDepth → codec.decode2 s.params.fifoDepth block = u →
    u.WellTyped s.params.fifoDepth →
    (s.att = true →
      exec (.load 2#8 aux block) s = .next { s with
        ula := linesFrom u, aux := codec.auxBit aux, result := .nothing
        events := s.events ++ changeEvents s.cpu u (linesFrom u) }) ∧
    (s.att = false →
      exec (.load 2#8 aux block) s = .next { s with ula := u, aux := codec.auxBit aux, result := .nothing })

/-- R222, R224, R225 (and R244, R248): LOAD with any other tag takes the legacy path and leaves AUX unchanged. While
detached the loaded state is kept as it is, cached lines included, and the observed lines stay 0: log 12, between R222
and R248. -/
def Obligations.LoadOfAnyOtherTagTakesTheLegacyLayout : Prop :=
  ∀ (s : State) (tag aux : Byte) (block : List Byte) (u : Ula), tag ≠ 2#8 →
    block.length = codec.legacyLength s.params.fifoDepth →
    (codec.legacyFields s.params.fifoDepth block).widen = u → u.WellTyped s.params.fifoDepth →
    (s.att = true →
      exec (.load tag aux block) s = .next { s with
        ula := linesFrom u, result := .nothing, events := s.events ++ changeEvents s.cpu u (linesFrom u) }) ∧
    (s.att = false → exec (.load tag aux block) s = .next { s with ula := u, result := .nothing })

/-- U18: LOAD of a block that is not of the layout's length, or whose decoded fields break the type constraints, is
refused by name. (Which blocks decode to such fields depends on the free codec; with `N = 0` every block does.) -/
def Obligations.LoadOfABadBlockIsRefused : Prop :=
  ∀ (s : State) (tag aux : Byte) (block : List Byte),
    (tag = 2#8 → block.length ≠ codec.blockLength s.params.fifoDepth →
      exec (.load tag aux block) s = .refused (.blockLength block.length)) ∧
    (tag ≠ 2#8 → block.length ≠ codec.legacyLength s.params.fifoDepth →
      exec (.load tag aux block) s = .refused (.blockLength block.length)) ∧
    (tag = 2#8 → block.length = codec.blockLength s.params.fifoDepth →
      ¬ (codec.decode2 s.params.fifoDepth block).WellTyped s.params.fifoDepth →
      exec (.load tag aux block) s = .refused .impossibleFields) ∧
    (tag ≠ 2#8 → block.length = codec.legacyLength s.params.fifoDepth →
      ¬ (codec.legacyFields s.params.fifoDepth block).widen.WellTyped s.params.fifoDepth →
      exec (.load tag aux block) s = .refused .impossibleFields)

/-! ## The channels end to end -/

/-- R24, R112, R161: seen as the queue of its unread bytes, the FIFO of an attached block appends what the parasite
writes while there is room, gives the host the oldest byte, and is left alone by every other operation that is neither a
reset nor a load. -/
def Obligations.FifoIsABoundedQueue : Prop :=
  ∀ s : State, StateInv s → FlagsAgree s.params.fifoDepth s.ula → s.att = true →
    (∀ v, ∃ t, exec (.pwD1 v) s = .next t ∧
      fifoContents t.params.fifoDepth t.ula.ph1 =
        if (fifoContents s.params.fifoDepth s.ula.ph1).length < s.params.fifoDepth then
          fifoContents s.params.fifoDepth s.ula.ph1 ++ [v]
        else fifoContents s.params.fifoDepth s.ula.ph1) ∧
    (∃ t, exec .hrD1 s = .next t ∧
      (∀ v rest, fifoContents s.params.fifoDepth s.ula.ph1 = v :: rest →
        t.result = .byte v ∧ fifoContents t.params.fifoDepth t.ula.ph1 = rest) ∧
      (fifoContents s.params.fifoDepth s.ula.ph1 = [] →
        t.result = .byte s.ula.hfl ∧ fifoContents t.params.fifoDepth t.ula.ph1 = [])) ∧
    (∀ i t, exec i s = .next t → i ≠ .hrD1 → (∀ v, i ≠ .pwD1 v) → (∀ m, i ≠ .hwCtlSet m) → i ≠ .hreset →
      (∀ fs ok, i ≠ .attach fs ok) → (∀ tag aux block, i ≠ .load tag aux block) →
      fifoContents t.params.fifoDepth t.ula.ph1 = fifoContents s.params.fifoDepth s.ula.ph1)

/-- The source's property S1 (R112, R161): from an empty FIFO, up to N parasite writes are returned by as many host reads
in the order written, and after N writes one more before any read changes nothing of what is returned. -/
def Obligations.FifoReturnsWhatWasWrittenInOrder : Prop :=
  ∀ (s : State) (bytes : List Byte), StateInv s → FlagsAgree s.params.fifoDepth s.ula → s.att = true →
    s.ula.ph1.count = 0 → bytes.length ≤ s.params.fifoDepth →
    (∃ t, runOps (bytes.map Instr.pwD1 ++ List.replicate bytes.length Instr.hrD1) s =
        some (List.replicate bytes.length Result.nothing ++ bytes.map Result.byte, t) ∧ t.ula.ph1.count = 0) ∧
    (bytes.length = s.params.fifoDepth → ∀ v,
      ∃ t, runOps (bytes.map Instr.pwD1 ++ [Instr.pwD1 v] ++ List.replicate bytes.length Instr.hrD1) s =
        some (List.replicate (bytes.length + 1) Result.nothing ++ bytes.map Result.byte, t) ∧ t.ula.ph1.count = 0)

/-- The source's property S2 (R114, R124, R154, R163): a byte written to channel 2 from either side is what the other
side then reads; data available reads true before that read and false after it, and a second read returns the stale byte. -/
def Obligations.ChannelTwoRoundTrip : Prop :=
  ∀ (s : State) (v : Byte), s.att = true →
    (∃ t a b, runOps [.pwD2 v, .hrS2, .hrD2, .hrS2, .hrD2] s =
        some ([.nothing, .byte a, .byte v, .byte b, .byte v], t) ∧
      a.getLsbD 7 = true ∧ b.getLsbD 7 = false) ∧
    (∃ t a b, runOps [.hwD2 v, .prS2, .prD2, .prS2, .prD2] s =
        some ([.nothing, .byte a, .byte v, .byte b, .byte v], t) ∧
      a.getLsbD 7 = true ∧ b.getLsbD 7 = false)

/-- The source's property S3 (R116, R126, R156, R165): in two-byte mode two writes into an empty buffer are read back in
the order written, a third write before any read is dropped, and a third read returns the reader's own fallback latch. -/
def Obligations.ChannelThreeTwoByteOrder : Prop :=
  ∀ (s : State) (a b c : Byte), s.att = true → s.ula.cr.getLsbD 4 = true →
    (s.ula.hp3.occ = 0 →
      ∃ t, runOps [.hwD3 a, .hwD3 b, .hwD3 c, .prD3, .prD3, .prD3] s =
          some ([.nothing, .nothing, .nothing, .byte a, .byte b, .byte s.ula.pfl], t) ∧
        t.ula.hp3.occ = 0 ∧ t.ula.pDA.c3 = false ∧ t.ula.hSA.c3 = true) ∧
    (s.ula.ph3.occ = 0 →
      ∃ t, runOps [.pwD3 a, .pwD3 b, .pwD3 c, .hrD3, .hrD3, .hrD3] s =
          some ([.nothing, .nothing, .nothing, .byte a, .byte b, .byte s.ula.hfl], t) ∧
        t.ula.ph3.occ = 0 ∧ t.ula.hDA.c3 = false ∧ t.ula.pSA.c3 = true)

/-- R292, R38: when V is cleared over a half-written datum, every later write, however many, is dropped although space is
flagged, no NMI rises at any of these operations, and a read pops the byte. -/
def Obligations.ClearingWidthStrandsAHalfWrittenDatum : Prop :=
  ∀ (s : State) (bytes : List Byte), StateInv s → s.att = true → s.ula.cr.getLsbD 4 = true →
    s.ula.hp3.occ = 1 → s.ula.pDA.c3 = false → s.ula.hSA.c3 = true →
    ∃ t new, runOps (.hwCtlClr 0x10#7 :: bytes.map Instr.hwD3) s =
        some (List.replicate (bytes.length + 1) Result.nothing, t) ∧
      t.events = s.events ++ new ∧ (∀ c, Event.parNmi c true ∉ new) ∧
      t.ula.hp3 = s.ula.hp3 ∧ t.ula.pDA.c3 = false ∧ t.ula.hSA.c3 = true ∧ t.ula.pnmi = false ∧
      ∃ r, exec .prD3 t = .next r ∧ r.result = .byte s.ula.hp3.slot0 ∧ r.ula.hp3.occ = 0

/-- R295, the source's property S4: setting Q while channel 4 already holds unread data for the host raises the host line
on the same access, with one event, before any other. -/
def Obligations.EnablingOverPendingDataInterruptsAtOnce : Prop :=
  ∀ (s : State) (m : ControlBits), StateInv s → s.att = true → s.ula.hDA.c4 = true →
    s.ula.cr.getLsbD 0 = false → m.getLsbD 0 = true → (m.getLsbD 6 = false ∨ s.ula.cr.getLsbD 6 = true) →
    s.ula.hirq = false ∧
    ∃ t more, exec (.hwCtlSet m) s = .next t ∧ t.ula.hirq = true ∧
      t.events = s.events ++ [Event.hostIrq true] ++ more ∧ ∀ b, Event.hostIrq b ∉ more

/-- The source's property S5 (R121): clearing the reset-hold flag after it was set calls the coprocessor's `reset()`
exactly once; clearing it again, or when it was clear, calls nothing. -/
def Obligations.ReleasingHoldResetsExactlyOnce : Prop :=
  ∀ (s : State) (m n : ControlBits), s.att = true → m.getLsbD 5 = true → n.getLsbD 5 = true →
    (s.ula.cr.getLsbD 5 = true →
      ∃ t r, exec (.hwCtlClr m) s = .next t ∧
        t.events.count (.cpuReset s.cpu) = s.events.count (.cpuReset s.cpu) + 1 ∧
        exec (.hwCtlClr n) t = .next r ∧
        r.events.count (.cpuReset s.cpu) = t.events.count (.cpuReset s.cpu)) ∧
    (s.ula.cr.getLsbD 5 = false →
      ∃ t, exec (.hwCtlClr m) s = .next t ∧
        t.events.count (.cpuReset s.cpu) = s.events.count (.cpuReset s.cpu))

/-- The source's property S7 (R193, R195): selecting a usable configuration whose boot image fails leaves the session
running unattached with exactly one logged resource error, every later bus read returns `IDLE`, and a later ATTACH does
nothing. -/
def Obligations.MissingBootRomLeavesTheSessionRunning : Prop :=
  ∀ (s : State) (k : Nat) (cfg : TubeConfiguration) (cpu : CpuTypeDescriptor) (ok : Bool), s.att = false →
    s.configs[k]? = some cfg → cfg.cpu = some cpu →
    ∃ t, runOps [.select (some (Int.ofNat k)), .attach .failed ok] s =
        some ([.configuration (some cfg), .nothing], t) ∧
      t.att = false ∧ t.sel = none ∧ t.events = s.events ++ [Event.logResourceError] ∧
      (∀ i side address, performerOf i = .bus side .read address →
        ∃ r, exec i t = .next r ∧ r.result = .byte s.params.idle) ∧
      ∀ fs again, ∃ r, exec (.attach fs again) t = .next r ∧ r.att = false ∧ r.events = t.events

/-! ## Saving and loading -/

/-- R221, R222, R223 (V14 a): in a state of the invariant, loading what SAVE returned gives the state back and emits
nothing (the codec's laws: log 9, 10). -/
def Obligations.LoadingWhatWasSavedRestoresTheState : Prop :=
  ∀ s : State, StateInv s →
    ∃ aux block, exec .save s = .next { s with result := .saved (2#8 :: aux :: block) } ∧
      exec (.load 2#8 aux block) s = .next { s with result := .nothing }

/-- R226, the source's property S6: after a LOAD of a legacy block, saving in the current layout and loading that
reproduces the same live state and emits nothing. -/
def Obligations.LegacyLoadSaveReloadIsIdempotent : Prop :=
  ∀ (s t : State) (tag aux : Byte) (block : List Byte), tag ≠ 2#8 → exec (.load tag aux block) s = .next t →
    ∃ aux' block', exec .save t = .next { t with result := .saved (2#8 :: aux' :: block') } ∧
      exec (.load 2#8 aux' block') { t with result := .saved (2#8 :: aux' :: block') } = .next t
end

