-- ==== Sys2Proof/Laws/State.lean ====
section
/-! SUPPORT. One lemma per field per update of the state and of the ULA state, true by rfl, so that no proof unfolds a
record update. -/

namespace Sys2Proof.Machine

open Sys2Proof.Config

/-! ### withUla -/

@[simp] theorem withUla_params (s : State) (u : Ula) : (s.withUla u).params = s.params := rfl
@[simp] theorem withUla_ula (s : State) (u : Ula) : (s.withUla u).ula = u := rfl
@[simp] theorem withUla_att (s : State) (u : Ula) : (s.withUla u).att = s.att := rfl
@[simp] theorem withUla_sel (s : State) (u : Ula) : (s.withUla u).sel = s.sel := rfl
@[simp] theorem withUla_cpu (s : State) (u : Ula) : (s.withUla u).cpu = s.cpu := rfl
@[simp] theorem withUla_base (s : State) (u : Ula) : (s.withUla u).base = s.base := rfl
@[simp] theorem withUla_preset (s : State) (u : Ula) : (s.withUla u).preset = s.preset := rfl
@[simp] theorem withUla_mult (s : State) (u : Ula) : (s.withUla u).mult = s.mult := rfl
@[simp] theorem withUla_aux (s : State) (u : Ula) : (s.withUla u).aux = s.aux := rfl
@[simp] theorem withUla_configs (s : State) (u : Ula) : (s.withUla u).configs = s.configs := rfl
@[simp] theorem withUla_input (s : State) (u : Ula) : (s.withUla u).input = s.input := rfl
@[simp] theorem withUla_result (s : State) (u : Ula) : (s.withUla u).result = s.result := rfl
@[simp] theorem withUla_events (s : State) (u : Ula) : (s.withUla u).events = s.events := rfl

/-! ### emit -/

@[simp] theorem emit_params (s : State) (e : Event) : (s.emit e).params = s.params := rfl
@[simp] theorem emit_ula (s : State) (e : Event) : (s.emit e).ula = s.ula := rfl
@[simp] theorem emit_att (s : State) (e : Event) : (s.emit e).att = s.att := rfl
@[simp] theorem emit_sel (s : State) (e : Event) : (s.emit e).sel = s.sel := rfl
@[simp] theorem emit_cpu (s : State) (e : Event) : (s.emit e).cpu = s.cpu := rfl
@[simp] theorem emit_base (s : State) (e : Event) : (s.emit e).base = s.base := rfl
@[simp] theorem emit_preset (s : State) (e : Event) : (s.emit e).preset = s.preset := rfl
@[simp] theorem emit_mult (s : State) (e : Event) : (s.emit e).mult = s.mult := rfl
@[simp] theorem emit_aux (s : State) (e : Event) : (s.emit e).aux = s.aux := rfl
@[simp] theorem emit_configs (s : State) (e : Event) : (s.emit e).configs = s.configs := rfl
@[simp] theorem emit_input (s : State) (e : Event) : (s.emit e).input = s.input := rfl
@[simp] theorem emit_result (s : State) (e : Event) : (s.emit e).result = s.result := rfl
@[simp] theorem emit_events (s : State) (e : Event) : (s.emit e).events = s.events ++ [e] := rfl

/-! ### returning -/

@[simp] theorem returning_params (s : State) (r : Result) : (s.returning r).params = s.params := rfl
@[simp] theorem returning_ula (s : State) (r : Result) : (s.returning r).ula = s.ula := rfl
@[simp] theorem returning_att (s : State) (r : Result) : (s.returning r).att = s.att := rfl
@[simp] theorem returning_sel (s : State) (r : Result) : (s.returning r).sel = s.sel := rfl
@[simp] theorem returning_cpu (s : State) (r : Result) : (s.returning r).cpu = s.cpu := rfl
@[simp] theorem returning_base (s : State) (r : Result) : (s.returning r).base = s.base := rfl
@[simp] theorem returning_preset (s : State) (r : Result) : (s.returning r).preset = s.preset := rfl
@[simp] theorem returning_mult (s : State) (r : Result) : (s.returning r).mult = s.mult := rfl
@[simp] theorem returning_aux (s : State) (r : Result) : (s.returning r).aux = s.aux := rfl
@[simp] theorem returning_configs (s : State) (r : Result) : (s.returning r).configs = s.configs := rfl
@[simp] theorem returning_input (s : State) (r : Result) : (s.returning r).input = s.input := rfl
@[simp] theorem returning_result (s : State) (r : Result) : (s.returning r).result = r := rfl
@[simp] theorem returning_events (s : State) (r : Result) : (s.returning r).events = s.events := rfl

/-! ### The output lines -/

theorem hostIrqLine_of_att {s : State} (h : s.att = true) : s.hostIrqLine = s.ula.hirq := by simp [State.hostIrqLine, h]
theorem hostIrqLine_of_detached {s : State} (h : s.att = false) : s.hostIrqLine = false := by simp [State.hostIrqLine, h]
theorem parIrqLine_of_att {s : State} (h : s.att = true) : s.parIrqLine = s.ula.pirq := by simp [State.parIrqLine, h]
theorem parIrqLine_of_detached {s : State} (h : s.att = false) : s.parIrqLine = false := by simp [State.parIrqLine, h]
theorem parNmiLine_of_att {s : State} (h : s.att = true) : s.parNmiLine = s.ula.pnmi := by simp [State.parNmiLine, h]
theorem parNmiLine_of_detached {s : State} (h : s.att = false) : s.parNmiLine = false := by simp [State.parNmiLine, h]

/-! ### linesLow -/

@[simp] theorem linesLow_ph1 (u : Ula) : (linesLow u).ph1 = u.ph1 := rfl
@[simp] theorem linesLow_hp1 (u : Ula) : (linesLow u).hp1 = u.hp1 := rfl
@[simp] theorem linesLow_ph2 (u : Ula) : (linesLow u).ph2 = u.ph2 := rfl
@[simp] theorem linesLow_hp2 (u : Ula) : (linesLow u).hp2 = u.hp2 := rfl
@[simp] theorem linesLow_ph3 (u : Ula) : (linesLow u).ph3 = u.ph3 := rfl
@[simp] theorem linesLow_hp3 (u : Ula) : (linesLow u).hp3 = u.hp3 := rfl
@[simp] theorem linesLow_ph4 (u : Ula) : (linesLow u).ph4 = u.ph4 := rfl
@[simp] theorem linesLow_hp4 (u : Ula) : (linesLow u).hp4 = u.hp4 := rfl
@[simp] theorem linesLow_hDA (u : Ula) : (linesLow u).hDA = u.hDA := rfl
@[simp] theorem linesLow_hSA (u : Ula) : (linesLow u).hSA = u.hSA := rfl
@[simp] theorem linesLow_pDA (u : Ula) : (linesLow u).pDA = u.pDA := rfl
@[simp] theorem linesLow_pSA (u : Ula) : (linesLow u).pSA = u.pSA := rfl
@[simp] theorem linesLow_hfl (u : Ula) : (linesLow u).hfl = u.hfl := rfl
@[simp] theorem linesLow_pfl (u : Ula) : (linesLow u).pfl = u.pfl := rfl
@[simp] theorem linesLow_cr (u : Ula) : (linesLow u).cr = u.cr := rfl
@[simp] theorem linesLow_hirq (u : Ula) : (linesLow u).hirq = false := rfl
@[simp] theorem linesLow_pirq (u : Ula) : (linesLow u).pirq = false := rfl
@[simp] theorem linesLow_pnmi (u : Ula) : (linesLow u).pnmi = false := rfl

/-! ### detach -/

@[simp] theorem detach_params (s : State) : (detach s).params = s.params := rfl
@[simp] theorem detach_ula (s : State) : (detach s).ula = linesLow s.ula := rfl
@[simp] theorem detach_att (s : State) : (detach s).att = false := rfl
@[simp] theorem detach_sel (s : State) : (detach s).sel = s.sel := rfl
@[simp] theorem detach_cpu (s : State) : (detach s).cpu = s.cpu := rfl
@[simp] theorem detach_base (s : State) : (detach s).base = s.base := rfl
@[simp] theorem detach_preset (s : State) : (detach s).preset = s.preset := rfl
@[simp] theorem detach_mult (s : State) : (detach s).mult = s.mult := rfl
@[simp] theorem detach_aux (s : State) : (detach s).aux = s.aux := rfl
@[simp] theorem detach_configs (s : State) : (detach s).configs = s.configs := rfl
@[simp] theorem detach_input (s : State) : (detach s).input = s.input := rfl
@[simp] theorem detach_result (s : State) : (detach s).result = s.result := rfl
@[simp] theorem detach_events (s : State) : (detach s).events = if s.att && s.ula.hirq then s.events ++ [.hostIrq false] else s.events := rfl

/-! ### loadHfl -/

@[simp] theorem loadHfl_ph1 (v : Byte) (u : Ula) : (loadHfl v u).ph1 = u.ph1 := rfl
@[simp] theorem loadHfl_hp1 (v : Byte) (u : Ula) : (loadHfl v u).hp1 = u.hp1 := rfl
@[simp] theorem loadHfl_ph2 (v : Byte) (u : Ula) : (loadHfl v u).ph2 = u.ph2 := rfl
@[simp] theorem loadHfl_hp2 (v : Byte) (u : Ula) : (loadHfl v u).hp2 = u.hp2 := rfl
@[simp] theorem loadHfl_ph3 (v : Byte) (u : Ula) : (loadHfl v u).ph3 = u.ph3 := rfl
@[simp] theorem loadHfl_hp3 (v : Byte) (u : Ula) : (loadHfl v u).hp3 = u.hp3 := rfl
@[simp] theorem loadHfl_ph4 (v : Byte) (u : Ula) : (loadHfl v u).ph4 = u.ph4 := rfl
@[simp] theorem loadHfl_hp4 (v : Byte) (u : Ula) : (loadHfl v u).hp4 = u.hp4 := rfl
@[simp] theorem loadHfl_hDA (v : Byte) (u : Ula) : (loadHfl v u).hDA = u.hDA := rfl
@[simp] theorem loadHfl_hSA (v : Byte) (u : Ula) : (loadHfl v u).hSA = u.hSA := rfl
@[simp] theorem loadHfl_pDA (v : Byte) (u : Ula) : (loadHfl v u).pDA = u.pDA := rfl
@[simp] theorem loadHfl_pSA (v : Byte) (u : Ula) : (loadHfl v u).pSA = u.pSA := rfl
@[simp] theorem loadHfl_hfl (v : Byte) (u : Ula) : (loadHfl v u).hfl = v := rfl
@[simp] theorem loadHfl_pfl (v : Byte) (u : Ula) : (loadHfl v u).pfl = u.pfl := rfl
@[simp] theorem loadHfl_cr (v : Byte) (u : Ula) : (loadHfl v u).cr = u.cr := rfl
@[simp] theorem loadHfl_hirq (v : Byte) (u : Ula) : (loadHfl v u).hirq = u.hirq := rfl
@[simp] theorem loadHfl_pirq (v : Byte) (u : Ula) : (loadHfl v u).pirq = u.pirq := rfl
@[simp] theorem loadHfl_pnmi (v : Byte) (u : Ula) : (loadHfl v u).pnmi = u.pnmi := rfl

/-! ### loadPfl -/

@[simp] theorem loadPfl_ph1 (v : Byte) (u : Ula) : (loadPfl v u).ph1 = u.ph1 := rfl
@[simp] theorem loadPfl_hp1 (v : Byte) (u : Ula) : (loadPfl v u).hp1 = u.hp1 := rfl
@[simp] theorem loadPfl_ph2 (v : Byte) (u : Ula) : (loadPfl v u).ph2 = u.ph2 := rfl
@[simp] theorem loadPfl_hp2 (v : Byte) (u : Ula) : (loadPfl v u).hp2 = u.hp2 := rfl
@[simp] theorem loadPfl_ph3 (v : Byte) (u : Ula) : (loadPfl v u).ph3 = u.ph3 := rfl
@[simp] theorem loadPfl_hp3 (v : Byte) (u : Ula) : (loadPfl v u).hp3 = u.hp3 := rfl
@[simp] theorem loadPfl_ph4 (v : Byte) (u : Ula) : (loadPfl v u).ph4 = u.ph4 := rfl
@[simp] theorem loadPfl_hp4 (v : Byte) (u : Ula) : (loadPfl v u).hp4 = u.hp4 := rfl
@[simp] theorem loadPfl_hDA (v : Byte) (u : Ula) : (loadPfl v u).hDA = u.hDA := rfl
@[simp] theorem loadPfl_hSA (v : Byte) (u : Ula) : (loadPfl v u).hSA = u.hSA := rfl
@[simp] theorem loadPfl_pDA (v : Byte) (u : Ula) : (loadPfl v u).pDA = u.pDA := rfl
@[simp] theorem loadPfl_pSA (v : Byte) (u : Ula) : (loadPfl v u).pSA = u.pSA := rfl
@[simp] theorem loadPfl_hfl (v : Byte) (u : Ula) : (loadPfl v u).hfl = u.hfl := rfl
@[simp] theorem loadPfl_pfl (v : Byte) (u : Ula) : (loadPfl v u).pfl = v := rfl
@[simp] theorem loadPfl_cr (v : Byte) (u : Ula) : (loadPfl v u).cr = u.cr := rfl
@[simp] theorem loadPfl_hirq (v : Byte) (u : Ula) : (loadPfl v u).hirq = u.hirq := rfl
@[simp] theorem loadPfl_pirq (v : Byte) (u : Ula) : (loadPfl v u).pirq = u.pirq := rfl
@[simp] theorem loadPfl_pnmi (v : Byte) (u : Ula) : (loadPfl v u).pnmi = u.pnmi := rfl

/-! ### clearControl -/

@[simp] theorem clearControl_ph1 (m : ControlBits) (u : Ula) : (clearControl m u).ph1 = u.ph1 := rfl
@[simp] theorem clearControl_hp1 (m : ControlBits) (u : Ula) : (clearControl m u).hp1 = u.hp1 := rfl
@[simp] theorem clearControl_ph2 (m : ControlBits) (u : Ula) : (clearControl m u).ph2 = u.ph2 := rfl
@[simp] theorem clearControl_hp2 (m : ControlBits) (u : Ula) : (clearControl m u).hp2 = u.hp2 := rfl
@[simp] theorem clearControl_ph3 (m : ControlBits) (u : Ula) : (clearControl m u).ph3 = u.ph3 := rfl
@[simp] theorem clearControl_hp3 (m : ControlBits) (u : Ula) : (clearControl m u).hp3 = u.hp3 := rfl
@[simp] theorem clearControl_ph4 (m : ControlBits) (u : Ula) : (clearControl m u).ph4 = u.ph4 := rfl
@[simp] theorem clearControl_hp4 (m : ControlBits) (u : Ula) : (clearControl m u).hp4 = u.hp4 := rfl
@[simp] theorem clearControl_hDA (m : ControlBits) (u : Ula) : (clearControl m u).hDA = u.hDA := rfl
@[simp] theorem clearControl_hSA (m : ControlBits) (u : Ula) : (clearControl m u).hSA = u.hSA := rfl
@[simp] theorem clearControl_pDA (m : ControlBits) (u : Ula) : (clearControl m u).pDA = u.pDA := rfl
@[simp] theorem clearControl_pSA (m : ControlBits) (u : Ula) : (clearControl m u).pSA = u.pSA := rfl
@[simp] theorem clearControl_hfl (m : ControlBits) (u : Ula) : (clearControl m u).hfl = u.hfl := rfl
@[simp] theorem clearControl_pfl (m : ControlBits) (u : Ula) : (clearControl m u).pfl = u.pfl := rfl
@[simp] theorem clearControl_cr (m : ControlBits) (u : Ula) : (clearControl m u).cr = u.cr &&& ~~~m := rfl
@[simp] theorem clearControl_hirq (m : ControlBits) (u : Ula) : (clearControl m u).hirq = u.hirq := rfl
@[simp] theorem clearControl_pirq (m : ControlBits) (u : Ula) : (clearControl m u).pirq = u.pirq := rfl
@[simp] theorem clearControl_pnmi (m : ControlBits) (u : Ula) : (clearControl m u).pnmi = u.pnmi := rfl

/-! ### withDerivedLines -/

@[simp] theorem withDerivedLines_ph1 (u : Ula) : (withDerivedLines u).ph1 = u.ph1 := rfl
@[simp] theorem withDerivedLines_hp1 (u : Ula) : (withDerivedLines u).hp1 = u.hp1 := rfl
@[simp] theorem withDerivedLines_ph2 (u : Ula) : (withDerivedLines u).ph2 = u.ph2 := rfl
@[simp] theorem withDerivedLines_hp2 (u : Ula) : (withDerivedLines u).hp2 = u.hp2 := rfl
@[simp] theorem withDerivedLines_ph3 (u : Ula) : (withDerivedLines u).ph3 = u.ph3 := rfl
@[simp] theorem withDerivedLines_hp3 (u : Ula) : (withDerivedLines u).hp3 = u.hp3 := rfl
@[simp] theorem withDerivedLines_ph4 (u : Ula) : (withDerivedLines u).ph4 = u.ph4 := rfl
@[simp] theorem withDerivedLines_hp4 (u : Ula) : (withDerivedLines u).hp4 = u.hp4 := rfl
@[simp] theorem withDerivedLines_hDA (u : Ula) : (withDerivedLines u).hDA = u.hDA := rfl
@[simp] theorem withDerivedLines_hSA (u : Ula) : (withDerivedLines u).hSA = u.hSA := rfl
@[simp] theorem withDerivedLines_pDA (u : Ula) : (withDerivedLines u).pDA = u.pDA := rfl
@[simp] theorem withDerivedLines_pSA (u : Ula) : (withDerivedLines u).pSA = u.pSA := rfl
@[simp] theorem withDerivedLines_hfl (u : Ula) : (withDerivedLines u).hfl = u.hfl := rfl
@[simp] theorem withDerivedLines_pfl (u : Ula) : (withDerivedLines u).pfl = u.pfl := rfl
@[simp] theorem withDerivedLines_cr (u : Ula) : (withDerivedLines u).cr = u.cr := rfl
@[simp] theorem withDerivedLines_hirq (u : Ula) : (withDerivedLines u).hirq = hirqLevel u := rfl
@[simp] theorem withDerivedLines_pirq (u : Ula) : (withDerivedLines u).pirq = pirqLevel u := rfl
@[simp] theorem withDerivedLines_pnmi (u : Ula) : (withDerivedLines u).pnmi = pnmiLevel u := rfl

/-! ### clearChannels -/

@[simp] theorem clearChannels_ph1 (n : Nat) (u : Ula) : (clearChannels n u).ph1 = ⟨List.replicate n 0#8, 0, 0, 0⟩ := rfl
@[simp] theorem clearChannels_hp1 (n : Nat) (u : Ula) : (clearChannels n u).hp1 = 0#8 := rfl
@[simp] theorem clearChannels_ph2 (n : Nat) (u : Ula) : (clearChannels n u).ph2 = 0#8 := rfl
@[simp] theorem clearChannels_hp2 (n : Nat) (u : Ula) : (clearChannels n u).hp2 = 0#8 := rfl
@[simp] theorem clearChannels_ph3 (n : Nat) (u : Ula) : (clearChannels n u).ph3 = ⟨0#8, 0#8, 0⟩ := rfl
@[simp] theorem clearChannels_hp3 (n : Nat) (u : Ula) : (clearChannels n u).hp3 = ⟨0#8, 0#8, 0⟩ := rfl
@[simp] theorem clearChannels_ph4 (n : Nat) (u : Ula) : (clearChannels n u).ph4 = 0#8 := rfl
@[simp] theorem clearChannels_hp4 (n : Nat) (u : Ula) : (clearChannels n u).hp4 = 0#8 := rfl
@[simp] theorem clearChannels_hDA (n : Nat) (u : Ula) : (clearChannels n u).hDA = ⟨false, false, false, false⟩ := rfl
@[simp] theorem clearChannels_hSA (n : Nat) (u : Ula) : (clearChannels n u).hSA = ⟨true, true, true, true⟩ := rfl
@[simp] theorem clearChannels_pDA (n : Nat) (u : Ula) : (clearChannels n u).pDA = ⟨false, false, false, false⟩ := rfl
@[simp] theorem clearChannels_pSA (n : Nat) (u : Ula) : (clearChannels n u).pSA = ⟨true, true, true, true⟩ := rfl
@[simp] theorem clearChannels_hfl (n : Nat) (u : Ula) : (clearChannels n u).hfl = u.hfl := rfl
@[simp] theorem clearChannels_pfl (n : Nat) (u : Ula) : (clearChannels n u).pfl = u.pfl := rfl
@[simp] theorem clearChannels_cr (n : Nat) (u : Ula) : (clearChannels n u).cr = u.cr := rfl
@[simp] theorem clearChannels_hirq (n : Nat) (u : Ula) : (clearChannels n u).hirq = u.hirq := rfl
@[simp] theorem clearChannels_pirq (n : Nat) (u : Ula) : (clearChannels n u).pirq = u.pirq := rfl
@[simp] theorem clearChannels_pnmi (n : Nat) (u : Ula) : (clearChannels n u).pnmi = u.pnmi := rfl

/-! ### deselect -/

@[simp] theorem deselect_params (s : State) : (s.deselect).params = s.params := rfl
@[simp] theorem deselect_ula (s : State) : (s.deselect).ula = s.ula := rfl
@[simp] theorem deselect_att (s : State) : (s.deselect).att = s.att := rfl
@[simp] theorem deselect_sel (s : State) : (s.deselect).sel = none := rfl
@[simp] theorem deselect_cpu (s : State) : (s.deselect).cpu = s.cpu := rfl
@[simp] theorem deselect_base (s : State) : (s.deselect).base = s.base := rfl
@[simp] theorem deselect_preset (s : State) : (s.deselect).preset = s.preset := rfl
@[simp] theorem deselect_mult (s : State) : (s.deselect).mult = s.mult := rfl
@[simp] theorem deselect_aux (s : State) : (s.deselect).aux = s.aux := rfl
@[simp] theorem deselect_configs (s : State) : (s.deselect).configs = s.configs := rfl
@[simp] theorem deselect_input (s : State) : (s.deselect).input = s.input := rfl
@[simp] theorem deselect_result (s : State) : (s.deselect).result = s.result := rfl
@[simp] theorem deselect_events (s : State) : (s.deselect).events = s.events := rfl

/-! ### withAttached -/

@[simp] theorem withAttached_params (s : State) (cpu : CpuTypeDescriptor) (base : Nat) : (s.withAttached cpu base).params = s.params := rfl
@[simp] theorem withAttached_ula (s : State) (cpu : CpuTypeDescriptor) (base : Nat) : (s.withAttached cpu base).ula = linesLow s.ula := rfl
@[simp] theorem withAttached_att (s : State) (cpu : CpuTypeDescriptor) (base : Nat) : (s.withAttached cpu base).att = true := rfl
@[simp] theorem withAttached_sel (s : State) (cpu : CpuTypeDescriptor) (base : Nat) : (s.withAttached cpu base).sel = s.sel := rfl
@[simp] theorem withAttached_cpu (s : State) (cpu : CpuTypeDescriptor) (base : Nat) : (s.withAttached cpu base).cpu = cpu := rfl
@[simp] theorem withAttached_base (s : State) (cpu : CpuTypeDescriptor) (base : Nat) : (s.withAttached cpu base).base = base := rfl
@[simp] theorem withAttached_preset (s : State) (cpu : CpuTypeDescriptor) (base : Nat) : (s.withAttached cpu base).preset = s.preset := rfl
@[simp] theorem withAttached_mult (s : State) (cpu : CpuTypeDescriptor) (base : Nat) : (s.withAttached cpu base).mult = effectiveMultiplier s.preset base := rfl
@[simp] theorem withAttached_aux (s : State) (cpu : CpuTypeDescriptor) (base : Nat) : (s.withAttached cpu base).aux = s.aux := rfl
@[simp] theorem withAttached_configs (s : State) (cpu : CpuTypeDescriptor) (base : Nat) : (s.withAttached cpu base).configs = s.configs := rfl
@[simp] theorem withAttached_input (s : State) (cpu : CpuTypeDescriptor) (base : Nat) : (s.withAttached cpu base).input = s.input := rfl
@[simp] theorem withAttached_result (s : State) (cpu : CpuTypeDescriptor) (base : Nat) : (s.withAttached cpu base).result = s.result := rfl
@[simp] theorem withAttached_events (s : State) (cpu : CpuTypeDescriptor) (base : Nat) : (s.withAttached cpu base).events = s.events := rfl

/-! ### clearControlState -/

@[simp] theorem clearControlState_ph1 (u : Ula) : (clearControlState u).ph1 = u.ph1 := rfl
@[simp] theorem clearControlState_hp1 (u : Ula) : (clearControlState u).hp1 = u.hp1 := rfl
@[simp] theorem clearControlState_ph2 (u : Ula) : (clearControlState u).ph2 = u.ph2 := rfl
@[simp] theorem clearControlState_hp2 (u : Ula) : (clearControlState u).hp2 = u.hp2 := rfl
@[simp] theorem clearControlState_ph3 (u : Ula) : (clearControlState u).ph3 = u.ph3 := rfl
@[simp] theorem clearControlState_hp3 (u : Ula) : (clearControlState u).hp3 = u.hp3 := rfl
@[simp] theorem clearControlState_ph4 (u : Ula) : (clearControlState u).ph4 = u.ph4 := rfl
@[simp] theorem clearControlState_hp4 (u : Ula) : (clearControlState u).hp4 = u.hp4 := rfl
@[simp] theorem clearControlState_hDA (u : Ula) : (clearControlState u).hDA = u.hDA := rfl
@[simp] theorem clearControlState_hSA (u : Ula) : (clearControlState u).hSA = u.hSA := rfl
@[simp] theorem clearControlState_pDA (u : Ula) : (clearControlState u).pDA = u.pDA := rfl
@[simp] theorem clearControlState_pSA (u : Ula) : (clearControlState u).pSA = u.pSA := rfl
@[simp] theorem clearControlState_hfl (u : Ula) : (clearControlState u).hfl = 0#8 := rfl
@[simp] theorem clearControlState_pfl (u : Ula) : (clearControlState u).pfl = 0#8 := rfl
@[simp] theorem clearControlState_cr (u : Ula) : (clearControlState u).cr = 0#7 := rfl
@[simp] theorem clearControlState_hirq (u : Ula) : (clearControlState u).hirq = u.hirq := rfl
@[simp] theorem clearControlState_pirq (u : Ula) : (clearControlState u).pirq = u.pirq := rfl
@[simp] theorem clearControlState_pnmi (u : Ula) : (clearControlState u).pnmi = u.pnmi := rfl

/-! ### storeHP1 -/

@[simp] theorem storeHP1_ph1 (v : Byte) (u : Ula) : (storeHP1 v u).ph1 = u.ph1 := rfl
@[simp] theorem storeHP1_hp1 (v : Byte) (u : Ula) : (storeHP1 v u).hp1 = v := rfl
@[simp] theorem storeHP1_ph2 (v : Byte) (u : Ula) : (storeHP1 v u).ph2 = u.ph2 := rfl
@[simp] theorem storeHP1_hp2 (v : Byte) (u : Ula) : (storeHP1 v u).hp2 = u.hp2 := rfl
@[simp] theorem storeHP1_ph3 (v : Byte) (u : Ula) : (storeHP1 v u).ph3 = u.ph3 := rfl
@[simp] theorem storeHP1_hp3 (v : Byte) (u : Ula) : (storeHP1 v u).hp3 = u.hp3 := rfl
@[simp] theorem storeHP1_ph4 (v : Byte) (u : Ula) : (storeHP1 v u).ph4 = u.ph4 := rfl
@[simp] theorem storeHP1_hp4 (v : Byte) (u : Ula) : (storeHP1 v u).hp4 = u.hp4 := rfl
@[simp] theorem storeHP1_hDA (v : Byte) (u : Ula) : (storeHP1 v u).hDA = u.hDA := rfl
@[simp] theorem storeHP1_hSA (v : Byte) (u : Ula) : (storeHP1 v u).hSA = { u.hSA with c1 := false } := rfl
@[simp] theorem storeHP1_pDA (v : Byte) (u : Ula) : (storeHP1 v u).pDA = { u.pDA with c1 := true } := rfl
@[simp] theorem storeHP1_pSA (v : Byte) (u : Ula) : (storeHP1 v u).pSA = u.pSA := rfl
@[simp] theorem storeHP1_hfl (v : Byte) (u : Ula) : (storeHP1 v u).hfl = u.hfl := rfl
@[simp] theorem storeHP1_pfl (v : Byte) (u : Ula) : (storeHP1 v u).pfl = u.pfl := rfl
@[simp] theorem storeHP1_cr (v : Byte) (u : Ula) : (storeHP1 v u).cr = u.cr := rfl
@[simp] theorem storeHP1_hirq (v : Byte) (u : Ula) : (storeHP1 v u).hirq = u.hirq := rfl
@[simp] theorem storeHP1_pirq (v : Byte) (u : Ula) : (storeHP1 v u).pirq = u.pirq := rfl
@[simp] theorem storeHP1_pnmi (v : Byte) (u : Ula) : (storeHP1 v u).pnmi = u.pnmi := rfl

/-! ### storeHP2 -/

@[simp] theorem storeHP2_ph1 (v : Byte) (u : Ula) : (storeHP2 v u).ph1 = u.ph1 := rfl
@[simp] theorem storeHP2_hp1 (v : Byte) (u : Ula) : (storeHP2 v u).hp1 = u.hp1 := rfl
@[simp] theorem storeHP2_ph2 (v : Byte) (u : Ula) : (storeHP2 v u).ph2 = u.ph2 := rfl
@[simp] theorem storeHP2_hp2 (v : Byte) (u : Ula) : (storeHP2 v u).hp2 = v := rfl
@[simp] theorem storeHP2_ph3 (v : Byte) (u : Ula) : (storeHP2 v u).ph3 = u.ph3 := rfl
@[simp] theorem storeHP2_hp3 (v : Byte) (u : Ula) : (storeHP2 v u).hp3 = u.hp3 := rfl
@[simp] theorem storeHP2_ph4 (v : Byte) (u : Ula) : (storeHP2 v u).ph4 = u.ph4 := rfl
@[simp] theorem storeHP2_hp4 (v : Byte) (u : Ula) : (storeHP2 v u).hp4 = u.hp4 := rfl
@[simp] theorem storeHP2_hDA (v : Byte) (u : Ula) : (storeHP2 v u).hDA = u.hDA := rfl
@[simp] theorem storeHP2_hSA (v : Byte) (u : Ula) : (storeHP2 v u).hSA = { u.hSA with c2 := false } := rfl
@[simp] theorem storeHP2_pDA (v : Byte) (u : Ula) : (storeHP2 v u).pDA = { u.pDA with c2 := true } := rfl
@[simp] theorem storeHP2_pSA (v : Byte) (u : Ula) : (storeHP2 v u).pSA = u.pSA := rfl
@[simp] theorem storeHP2_hfl (v : Byte) (u : Ula) : (storeHP2 v u).hfl = u.hfl := rfl
@[simp] theorem storeHP2_pfl (v : Byte) (u : Ula) : (storeHP2 v u).pfl = u.pfl := rfl
@[simp] theorem storeHP2_cr (v : Byte) (u : Ula) : (storeHP2 v u).cr = u.cr := rfl
@[simp] theorem storeHP2_hirq (v : Byte) (u : Ula) : (storeHP2 v u).hirq = u.hirq := rfl
@[simp] theorem storeHP2_pirq (v : Byte) (u : Ula) : (storeHP2 v u).pirq = u.pirq := rfl
@[simp] theorem storeHP2_pnmi (v : Byte) (u : Ula) : (storeHP2 v u).pnmi = u.pnmi := rfl

/-! ### storeHP4 -/

@[simp] theorem storeHP4_ph1 (v : Byte) (u : Ula) : (storeHP4 v u).ph1 = u.ph1 := rfl
@[simp] theorem storeHP4_hp1 (v : Byte) (u : Ula) : (storeHP4 v u).hp1 = u.hp1 := rfl
@[simp] theorem storeHP4_ph2 (v : Byte) (u : Ula) : (storeHP4 v u).ph2 = u.ph2 := rfl
@[simp] theorem storeHP4_hp2 (v : Byte) (u : Ula) : (storeHP4 v u).hp2 = u.hp2 := rfl
@[simp] theorem storeHP4_ph3 (v : Byte) (u : Ula) : (storeHP4 v u).ph3 = u.ph3 := rfl
@[simp] theorem storeHP4_hp3 (v : Byte) (u : Ula) : (storeHP4 v u).hp3 = u.hp3 := rfl
@[simp] theorem storeHP4_ph4 (v : Byte) (u : Ula) : (storeHP4 v u).ph4 = u.ph4 := rfl
@[simp] theorem storeHP4_hp4 (v : Byte) (u : Ula) : (storeHP4 v u).hp4 = v := rfl
@[simp] theorem storeHP4_hDA (v : Byte) (u : Ula) : (storeHP4 v u).hDA = u.hDA := rfl
@[simp] theorem storeHP4_hSA (v : Byte) (u : Ula) : (storeHP4 v u).hSA = { u.hSA with c4 := false } := rfl
@[simp] theorem storeHP4_pDA (v : Byte) (u : Ula) : (storeHP4 v u).pDA = { u.pDA with c4 := true } := rfl
@[simp] theorem storeHP4_pSA (v : Byte) (u : Ula) : (storeHP4 v u).pSA = u.pSA := rfl
@[simp] theorem storeHP4_hfl (v : Byte) (u : Ula) : (storeHP4 v u).hfl = u.hfl := rfl
@[simp] theorem storeHP4_pfl (v : Byte) (u : Ula) : (storeHP4 v u).pfl = u.pfl := rfl
@[simp] theorem storeHP4_cr (v : Byte) (u : Ula) : (storeHP4 v u).cr = u.cr := rfl
@[simp] theorem storeHP4_hirq (v : Byte) (u : Ula) : (storeHP4 v u).hirq = u.hirq := rfl
@[simp] theorem storeHP4_pirq (v : Byte) (u : Ula) : (storeHP4 v u).pirq = u.pirq := rfl
@[simp] theorem storeHP4_pnmi (v : Byte) (u : Ula) : (storeHP4 v u).pnmi = u.pnmi := rfl

/-! ### storePH2 -/

@[simp] theorem storePH2_ph1 (v : Byte) (u : Ula) : (storePH2 v u).ph1 = u.ph1 := rfl
@[simp] theorem storePH2_hp1 (v : Byte) (u : Ula) : (storePH2 v u).hp1 = u.hp1 := rfl
@[simp] theorem storePH2_ph2 (v : Byte) (u : Ula) : (storePH2 v u).ph2 = v := rfl
@[simp] theorem storePH2_hp2 (v : Byte) (u : Ula) : (storePH2 v u).hp2 = u.hp2 := rfl
@[simp] theorem storePH2_ph3 (v : Byte) (u : Ula) : (storePH2 v u).ph3 = u.ph3 := rfl
@[simp] theorem storePH2_hp3 (v : Byte) (u : Ula) : (storePH2 v u).hp3 = u.hp3 := rfl
@[simp] theorem storePH2_ph4 (v : Byte) (u : Ula) : (storePH2 v u).ph4 = u.ph4 := rfl
@[simp] theorem storePH2_hp4 (v : Byte) (u : Ula) : (storePH2 v u).hp4 = u.hp4 := rfl
@[simp] theorem storePH2_hDA (v : Byte) (u : Ula) : (storePH2 v u).hDA = { u.hDA with c2 := true } := rfl
@[simp] theorem storePH2_hSA (v : Byte) (u : Ula) : (storePH2 v u).hSA = u.hSA := rfl
@[simp] theorem storePH2_pDA (v : Byte) (u : Ula) : (storePH2 v u).pDA = u.pDA := rfl
@[simp] theorem storePH2_pSA (v : Byte) (u : Ula) : (storePH2 v u).pSA = { u.pSA with c2 := false } := rfl
@[simp] theorem storePH2_hfl (v : Byte) (u : Ula) : (storePH2 v u).hfl = u.hfl := rfl
@[simp] theorem storePH2_pfl (v : Byte) (u : Ula) : (storePH2 v u).pfl = u.pfl := rfl
@[simp] theorem storePH2_cr (v : Byte) (u : Ula) : (storePH2 v u).cr = u.cr := rfl
@[simp] theorem storePH2_hirq (v : Byte) (u : Ula) : (storePH2 v u).hirq = u.hirq := rfl
@[simp] theorem storePH2_pirq (v : Byte) (u : Ula) : (storePH2 v u).pirq = u.pirq := rfl
@[simp] theorem storePH2_pnmi (v : Byte) (u : Ula) : (storePH2 v u).pnmi = u.pnmi := rfl

/-! ### storePH4 -/

@[simp] theorem storePH4_ph1 (v : Byte) (u : Ula) : (storePH4 v u).ph1 = u.ph1 := rfl
@[simp] theorem storePH4_hp1 (v : Byte) (u : Ula) : (storePH4 v u).hp1 = u.hp1 := rfl
@[simp] theorem storePH4_ph2 (v : Byte) (u : Ula) : (storePH4 v u).ph2 = u.ph2 := rfl
@[simp] theorem storePH4_hp2 (v : Byte) (u : Ula) : (storePH4 v u).hp2 = u.hp2 := rfl
@[simp] theorem storePH4_ph3 (v : Byte) (u : Ula) : (storePH4 v u).ph3 = u.ph3 := rfl
@[simp] theorem storePH4_hp3 (v : Byte) (u : Ula) : (storePH4 v u).hp3 = u.hp3 := rfl
@[simp] theorem storePH4_ph4 (v : Byte) (u : Ula) : (storePH4 v u).ph4 = v := rfl
@[simp] theorem storePH4_hp4 (v : Byte) (u : Ula) : (storePH4 v u).hp4 = u.hp4 := rfl
@[simp] theorem storePH4_hDA (v : Byte) (u : Ula) : (storePH4 v u).hDA = { u.hDA with c4 := true } := rfl
@[simp] theorem storePH4_hSA (v : Byte) (u : Ula) : (storePH4 v u).hSA = u.hSA := rfl
@[simp] theorem storePH4_pDA (v : Byte) (u : Ula) : (storePH4 v u).pDA = u.pDA := rfl
@[simp] theorem storePH4_pSA (v : Byte) (u : Ula) : (storePH4 v u).pSA = { u.pSA with c4 := false } := rfl
@[simp] theorem storePH4_hfl (v : Byte) (u : Ula) : (storePH4 v u).hfl = u.hfl := rfl
@[simp] theorem storePH4_pfl (v : Byte) (u : Ula) : (storePH4 v u).pfl = u.pfl := rfl
@[simp] theorem storePH4_cr (v : Byte) (u : Ula) : (storePH4 v u).cr = u.cr := rfl
@[simp] theorem storePH4_hirq (v : Byte) (u : Ula) : (storePH4 v u).hirq = u.hirq := rfl
@[simp] theorem storePH4_pirq (v : Byte) (u : Ula) : (storePH4 v u).pirq = u.pirq := rfl
@[simp] theorem storePH4_pnmi (v : Byte) (u : Ula) : (storePH4 v u).pnmi = u.pnmi := rfl

end Sys2Proof.Machine
end

