-- ==== Sys2Proof/Laws/Ops.lean ====
section
/-! SUPPORT. One lemma for each shared operation that says everything it can do, and the lemma that every operation over
the registers keeps the type constraints of the ULA state (spec R23, R28). -/

namespace Sys2Proof.Machine

open Sys2Proof.Config

/-! ## Interrupt derivation -/

theorem updateInts_of_att {s : State} (h : s.att = true) :
    updateInts s = { s with
      ula := withDerivedLines s.ula
      events := s.events ++ lineEvents s.cpu s.ula (withDerivedLines s.ula) } := by
  simp [updateInts, h]

theorem updateInts_of_detached {s : State} (h : s.att = false) : updateInts s = s := by
  simp [updateInts, h]

/-- What `updateInts` leaves alone, attached or not. -/
theorem updateInts_frame (s : State) :
    (updateInts s).params = s.params ∧ (updateInts s).att = s.att ∧ (updateInts s).sel = s.sel ∧
    (updateInts s).cpu = s.cpu ∧ (updateInts s).base = s.base ∧ (updateInts s).preset = s.preset ∧
    (updateInts s).mult = s.mult ∧ (updateInts s).aux = s.aux ∧ (updateInts s).configs = s.configs ∧
    (updateInts s).input = s.input ∧ (updateInts s).result = s.result := by
  cases h : s.att <;> simp [updateInts, h]

/-- The ULA state after `updateInts`: as before, or with its lines derived. -/
theorem updateInts_ula (s : State) :
    (updateInts s).ula = if s.att then withDerivedLines s.ula else s.ula := by
  cases h : s.att <;> simp [updateInts, h]

theorem withDerivedLines_idem (u : Ula) : withDerivedLines (withDerivedLines u) = withDerivedLines u := rfl

/-- Lines already at their levels give no event (R247). -/
theorem lineEvents_self (cpu : CpuTypeDescriptor) (u : Ula) : lineEvents cpu u u = [] := by
  simp [lineEvents]

/-! ## Bus transactions -/

theorem busRead_of_att {s : State} (r : Byte × Ula) (h : s.att = true) :
    busRead r s = { s with
      ula := withDerivedLines r.2, result := .byte r.1
      events := s.events ++ lineEvents s.cpu r.2 (withDerivedLines r.2) } := by
  simp [busRead, h, updateInts, State.returning, State.withUla]

theorem busRead_of_detached {s : State} (r : Byte × Ula) (h : s.att = false) :
    busRead r s = { s with result := .byte s.params.idle } := by
  simp [busRead, h, State.returning]

theorem busWrite_of_att {s : State} (u : Ula) (h : s.att = true) :
    busWrite u s = { s with
      ula := withDerivedLines u, result := .nothing
      events := s.events ++ lineEvents s.cpu u (withDerivedLines u) } := by
  simp [busWrite, h, updateInts, State.returning, State.withUla]

theorem busWrite_of_detached {s : State} (u : Ula) (h : s.att = false) :
    busWrite u s = { s with result := .nothing } := by
  simp [busWrite, h, State.returning]

/-! ## Resets -/

/-- A soft reset happens exactly when T goes from 0 to 1 (R120). -/
theorem setControl_cases (n : Nat) (m : ControlBits) (u : Ula) :
    (crT u.cr = false ∧ crT (u.cr ||| m) = true ∧
      setControl n m u = clearChannels n { u with cr := u.cr ||| m }) ∨
    (¬ (crT u.cr = false ∧ crT (u.cr ||| m) = true) ∧ setControl n m u = { u with cr := u.cr ||| m }) := by
  by_cases h : crT u.cr = false ∧ crT (u.cr ||| m) = true
  · exact .inl ⟨h.1, h.2, if_pos h⟩
  · exact .inr ⟨h, if_neg h⟩

/-- A hard reset of an attached block leaves the register state of R47, and the falls of the lines as its events. -/
theorem hardReset_of_att {s : State} (h : s.att = true) :
    hardReset s = { s with
      ula := Ula.fresh s.params.fifoDepth
      events := s.events ++ lineEvents s.cpu s.ula (Ula.fresh s.params.fifoDepth) } := by
  have e : withDerivedLines (clearControlState (clearChannels s.params.fifoDepth s.ula)) =
      Ula.fresh s.params.fifoDepth := by
    simp [withDerivedLines, clearControlState, clearChannels, Ula.fresh, hirqLevel, pirqLevel, pnmiLevel]
  unfold hardReset
  have a : (s.withUla (clearControlState (clearChannels s.params.fifoDepth s.ula))).att = true := h
  rw [updateInts_of_att a, withUla_ula, e]
  rfl

/-- The hard reset of a successful ATTACH (R195): the register state of R47 and no event, whatever the state before. -/
theorem hardReset_withAttached (s : State) (cpu : CpuTypeDescriptor) (base : Nat) :
    hardReset (s.withAttached cpu base) = { s with
      ula := Ula.fresh s.params.fifoDepth, cpu := cpu, base := base, att := true
      mult := effectiveMultiplier s.preset base } := by
  rw [hardReset_of_att rfl]
  simp [State.withAttached, lineEvents, linesLow, Ula.fresh]

theorem fresh_wellTyped {n : Nat} (h : 1 ≤ n) : (Ula.fresh n).WellTyped n := by
  simp [Ula.fresh, Ula.WellTyped]; omega

/-! ## Attaching -/

/-- ATTACH, case by case (R195): no usable selection, a failed image, a failed initializer, or success. -/
theorem attachSelected_cases (fs : FsAnswer) (ok : Bool) (s : State) :
    (usableConfiguration s.configs s.sel = none ∧ attachSelected fs ok s = (detachIfAttached s).deselect) ∨
    ∃ cfg cpu, usableConfiguration s.configs s.sel = some (cfg, cpu) ∧
      ((fs = .failed ∧ attachSelected fs ok s = ((detachIfAttached s).emit .logResourceError).deselect) ∨
      (fs ≠ .failed ∧ ok = false ∧
        attachSelected fs ok s = ((detachIfAttached s).emit (.cpuInit cpu (bootImage fs))).deselect) ∨
      (fs ≠ .failed ∧ ok = true ∧
        attachSelected fs ok s =
          hardReset (((detachIfAttached s).emit (.cpuInit cpu (bootImage fs))).withAttached cpu cfg.speed))) := by
  unfold attachSelected
  rcases usableConfiguration s.configs s.sel with _ | ⟨cfg, cpu⟩
  · exact .inl ⟨rfl, rfl⟩
  · refine .inr ⟨cfg, cpu, rfl, ?_⟩
    cases fs <;> cases ok <;> simp [attachTo, finishAttach]

/-! ## Loading -/

/-- What a LOAD that completes leaves (R222, R248, U18): attached, the loaded state with its lines derived and an event
for each that differs from the loaded one; detached, the loaded state as it is and no event. -/
theorem finishLoad_next {u : Ula} {aux : Bool} {s t : State} (h : finishLoad u aux s = .next t) :
    u.WellTyped s.params.fifoDepth ∧
    ((s.att = true ∧ t = { s with
        ula := withDerivedLines u, aux := aux, result := .nothing
        events := s.events ++ lineEvents s.cpu u (withDerivedLines u) }) ∨
      (s.att = false ∧ t = { s with ula := u, aux := aux, result := .nothing })) := by
  unfold finishLoad at h
  split at h
  · rename_i hu
    injection h with h
    refine ⟨hu, ?_⟩
    subst h
    cases ha : s.att <;> simp [updateInts, State.returning]
  · cases h

/-- The converse: a loaded state within the type constraints loads. -/
theorem finishLoad_of_wellTyped {u : Ula} (aux : Bool) {s : State} (h : u.WellTyped s.params.fifoDepth) :
    ∃ t, finishLoad u aux s = .next t :=
  ⟨_, if_pos h⟩

/-! ## The type constraints are kept -/

section WellTyped
variable {n : Nat} {u : Ula}

theorem clearChannels_wellTyped (h : 1 ≤ n) : (clearChannels n u).WellTyped n := by
  simp [clearChannels, Ula.WellTyped]; omega

theorem takeFifo_wellTyped (h : u.WellTyped n) : (takeFifo n u).2.WellTyped n := by
  unfold takeFifo
  split
  · obtain ⟨h1, h2, h3, h4, h5, h6⟩ := h
    exact ⟨h1, Nat.mod_lt _ (by omega), h3, by simp [fifoPop]; omega, h5, h6⟩
  · exact h

theorem putFifo_wellTyped (v : Byte) (h : u.WellTyped n) : (putFifo n v u).WellTyped n := by
  unfold putFifo
  split
  · obtain ⟨h1, h2, h3, h4, h5, h6⟩ := h
    exact ⟨by simp [fifoPush, h1], h2, Nat.mod_lt _ (by omega), by simp [fifoPush]; omega, h5, h6⟩
  · exact h

theorem takePH3_wellTyped (h : u.WellTyped n) : (takePH3 u).2.WellTyped n := by
  unfold takePH3
  split
  · obtain ⟨h1, h2, h3, h4, h5, h6⟩ := h
    exact ⟨h1, h2, h3, h4, by simp [shiftPop]; omega, h6⟩
  · exact h

theorem takeHP3_wellTyped (h : u.WellTyped n) : (takeHP3 u).2.WellTyped n := by
  unfold takeHP3
  split
  · obtain ⟨h1, h2, h3, h4, h5, h6⟩ := h
    exact ⟨h1, h2, h3, h4, h5, by simp [shiftPop]; omega⟩
  · exact h

theorem channelWidth_le_two (cr : ControlBits) : channelWidth cr ≤ 2 := by
  unfold channelWidth; split <;> omega

@[simp] theorem shiftAppend_occ (v : Byte) (b : ShiftBuffer) : (shiftAppend v b).occ = b.occ + 1 := by
  unfold shiftAppend; split <;> rfl

theorem putHP3_wellTyped (v : Byte) (h : u.WellTyped n) : (putHP3 v u).WellTyped n := by
  have w := channelWidth_le_two u.cr
  obtain ⟨h1, h2, h3, h4, h5, h6⟩ := h
  unfold putHP3
  split
  · split <;> exact ⟨h1, h2, h3, h4, h5, by simp; omega⟩
  · exact ⟨h1, h2, h3, h4, h5, h6⟩

theorem putPH3_wellTyped (v : Byte) (h : u.WellTyped n) : (putPH3 v u).WellTyped n := by
  have w := channelWidth_le_two u.cr
  obtain ⟨h1, h2, h3, h4, h5, h6⟩ := h
  unfold putPH3
  split
  · split <;> exact ⟨h1, h2, h3, h4, by simp; omega, h6⟩
  · exact ⟨h1, h2, h3, h4, h5, h6⟩

theorem setControl_wellTyped (m : ControlBits) (hn : 1 ≤ n) (h : u.WellTyped n) :
    (setControl n m u).WellTyped n := by
  rcases setControl_cases n m u with ⟨-, -, e⟩ | ⟨-, e⟩
  · rw [e]; exact clearChannels_wellTyped hn
  · rw [e]; exact h

theorem linesLow_wellTyped (h : u.WellTyped n) : (linesLow u).WellTyped n := h

theorem withDerivedLines_wellTyped (h : u.WellTyped n) : (withDerivedLines u).WellTyped n := h

end WellTyped

end Sys2Proof.Machine
end

