-- ==== Sys2Proof/Laws/Bus.lean ====
section
/-! SUPPORT. The frame of the bus transactions in the terms of the statements: an attached read or write has exactly its
`BusEffect`. -/

namespace Sys2Proof.Machine

open Sys2Proof.Config

theorem withDerivedLines_eq_linesFrom (u : Ula) : withDerivedLines u = linesFrom u := rfl

theorem lineEvents_eq_changeEvents (cpu : CpuTypeDescriptor) (a b : Ula) :
    lineEvents cpu a b = changeEvents cpu a b := by
  simp [lineEvents, changeEvents, eq_comm]

/-- `r` leaves the cached lines alone: every register operation does, and the recompute compares with them. -/
theorem busRead_effect {s : State} {r : Byte × Ula} (h : s.att = true)
    (h1 : r.2.hirq = s.ula.hirq) (h2 : r.2.pirq = s.ula.pirq) (h3 : r.2.pnmi = s.ula.pnmi) :
    BusEffect s (busRead r s) (.byte r.1) r.2 := by
  rw [busRead_of_att r h]
  refine ⟨⟨rfl, rfl, rfl, rfl, rfl, rfl, rfl, rfl, rfl, rfl⟩, rfl, rfl, ?_⟩
  simp [lineEvents_eq_changeEvents, withDerivedLines_eq_linesFrom, changeEvents, h1, h2, h3]

theorem busWrite_effect {s : State} {u : Ula} (h : s.att = true)
    (h1 : u.hirq = s.ula.hirq) (h2 : u.pirq = s.ula.pirq) (h3 : u.pnmi = s.ula.pnmi) :
    BusEffect s (busWrite u s) .nothing u := by
  rw [busWrite_of_att u h]
  refine ⟨⟨rfl, rfl, rfl, rfl, rfl, rfl, rfl, rfl, rfl, rfl⟩, rfl, rfl, ?_⟩
  simp [lineEvents_eq_changeEvents, withDerivedLines_eq_linesFrom, changeEvents, h1, h2, h3]

theorem linesCurrent_linesFrom (u : Ula) : LinesCurrent (linesFrom u) := ⟨rfl, rfl, rfl⟩

theorem linesFrom_of_linesCurrent {u : Ula} (h : LinesCurrent u) : linesFrom u = u := by
  obtain ⟨h1, h2, h3⟩ := h
  simp only [linesFrom, ← h1, ← h2, ← h3]

theorem cleared_clearChannels (n : Nat) (u : Ula) : Cleared n u (clearChannels n u) := by
  refine ⟨rfl, rfl, rfl, rfl, rfl, rfl, rfl, rfl, rfl, rfl, rfl, rfl, rfl, rfl, rfl, rfl, rfl, rfl⟩

end Sys2Proof.Machine
end

