-- ==== Sys2Proof/Laws/Codec.lean ====
section
/-! SUPPORT. The laws of the free codec, stated of `codec` (spec R223, R224, R226). -/

namespace Sys2Proof.Machine

open Sys2Proof.Config

theorem codec_encode2_length (n : Nat) (u : Ula) : (codec.encode2 n u).length = codec.blockLength n :=
  codec.encode2_length n u

theorem codec_decode2_encode2 {n : Nat} {u : Ula} (h : u.WellTyped n) : codec.decode2 n (codec.encode2 n u) = u :=
  codec.decode2_encode2 n u h

@[simp] theorem codec_auxBit_auxByte (b : Bool) : codec.auxBit (codec.auxByte b) = b :=
  codec.auxBit_auxByte b

/-- The current block is never empty. -/
theorem codec_blockLength_pos (n : Nat) : 0 < codec.blockLength n :=
  Nat.lt_of_le_of_lt (Nat.zero_le _) (codec.legacy_smaller n)

/-- The round trip R226 asks for, of the codec functions alone. -/
theorem codec_legacy_round_trip {n : Nat} (b : List Byte) (h : (codec.legacyFields n b).widen.WellTyped n) :
    codec.decode2 n (codec.encode2 n (codec.legacyFields n b).widen) = (codec.legacyFields n b).widen :=
  codec_decode2_encode2 h

end Sys2Proof.Machine
end

