-- ==== Sys2Proof/Laws/PerInstr.lean ====
section
/-! SUPPORT. What is said of every operation as syntax, one lemma per constructor: the packet of an operation is one of
the table row that carries its mnemonic (spec R81, R82, R93). -/

namespace Sys2Proof.Laws.EncodedRow

open Sys2Proof

/-- The MGMT4 rows of the opcode table: code and mnemonic (R82, R93). -/
def managementRows : List (BitVec 4 × String) := [
  (0#4, "HRESET"), (1#4, "LOADCFG"), (2#4, "FINDCPU"), (3#4, "SELECT"),
  (4#4, "ATTACH"), (5#4, "SPEED"), (6#4, "SAVE"), (7#4, "LOAD")]

/-- The packet of `i` is a word of the BUS13 row, or has the code of the MGMT4 row, that carries the mnemonic of `i`. -/
def Statement (i : Instr) : Prop :=
  (∃ w, encode i = .bus w ∧ ∃ r ∈ opcodeRows, r.mnemonic = i.mnemonic ∧ r.covers w = true) ∨
  (∃ code ops, encode i = .mgmt code ops ∧ (code, i.mnemonic) ∈ managementRows)

/-- The row mask keeps side, direction and selector and drops the byte. -/
theorem busWord_and_mask (p w : Bool) (a : Selector) (v : Byte) :
    busWord p w a v &&& 0x1F00#13 = busWord p w a 0#8 := by
  apply BitVec.eq_of_getLsbD_eq
  intro j hj
  rw [BitVec.getLsbD_and]
  simp only [busWord, BitVec.getLsbD_append]
  interval_cases j <;> simp

/-- The mask of the two control-write rows keeps the mode flag as well. -/
theorem controlWord_and_mask (set : Bool) (m : ControlBits) :
    busWord false true 0#3 (controlByte set m) &&& 0x1F80#13 = busWord false true 0#3 (controlByte set 0#7) := by
  apply BitVec.eq_of_getLsbD_eq
  intro j hj
  rw [BitVec.getLsbD_and]
  simp only [busWord, controlByte, BitVec.getLsbD_append]
  interval_cases j <;> simp

theorem of_row {i : Instr} {w : BitVec 13} {r : OpcodeRow} (e : encode i = .bus w) (h : r ∈ opcodeRows)
    (m : r.mnemonic = i.mnemonic) (c : w &&& r.mask = r.bits) : Statement i :=
  .inl ⟨w, e, r, h, m, by simp [OpcodeRow.covers, c]⟩

theorem of_code {i : Instr} {code : BitVec 4} {ops : Operands} (e : encode i = .mgmt code ops)
    (h : (code, i.mnemonic) ∈ managementRows) : Statement i :=
  .inr ⟨code, ops, e, h⟩

theorem hrS1 : Statement .hrS1 :=
  of_row (r := ⟨"HR.S1", 0x1F00#13, 0x0000#13⟩) rfl (by decide) rfl rfl

theorem hrD1 : Statement .hrD1 :=
  of_row (r := ⟨"HR.D1", 0x1F00#13, 0x0100#13⟩) rfl (by decide) rfl rfl

theorem hrS2 : Statement .hrS2 :=
  of_row (r := ⟨"HR.S2", 0x1F00#13, 0x0200#13⟩) rfl (by decide) rfl rfl

theorem hrD2 : Statement .hrD2 :=
  of_row (r := ⟨"HR.D2", 0x1F00#13, 0x0300#13⟩) rfl (by decide) rfl rfl

theorem hrS3 : Statement .hrS3 :=
  of_row (r := ⟨"HR.S3", 0x1F00#13, 0x0400#13⟩) rfl (by decide) rfl rfl

theorem hrD3 : Statement .hrD3 :=
  of_row (r := ⟨"HR.D3", 0x1F00#13, 0x0500#13⟩) rfl (by decide) rfl rfl

theorem hrS4 : Statement .hrS4 :=
  of_row (r := ⟨"HR.S4", 0x1F00#13, 0x0600#13⟩) rfl (by decide) rfl rfl

theorem hrD4 : Statement .hrD4 :=
  of_row (r := ⟨"HR.D4", 0x1F00#13, 0x0700#13⟩) rfl (by decide) rfl rfl

theorem hwCtlSet (m : ControlBits) : Statement (.hwCtlSet m) :=
  of_row (r := ⟨"HW.CTL.SET", 0x1F80#13, 0x0880#13⟩) rfl (by decide) rfl (controlWord_and_mask true m)

theorem hwCtlClr (m : ControlBits) : Statement (.hwCtlClr m) :=
  of_row (r := ⟨"HW.CTL.CLR", 0x1F80#13, 0x0800#13⟩) rfl (by decide) rfl (controlWord_and_mask false m)

theorem hwD1 (v : Byte) : Statement (.hwD1 v) :=
  of_row (r := ⟨"HW.D1", 0x1F00#13, 0x0900#13⟩) rfl (by decide) rfl (busWord_and_mask _ _ _ v)

theorem hwS2 (v : Byte) : Statement (.hwS2 v) :=
  of_row (r := ⟨"HW.S2", 0x1F00#13, 0x0A00#13⟩) rfl (by decide) rfl (busWord_and_mask _ _ _ v)

theorem hwD2 (v : Byte) : Statement (.hwD2 v) :=
  of_row (r := ⟨"HW.D2", 0x1F00#13, 0x0B00#13⟩) rfl (by decide) rfl (busWord_and_mask _ _ _ v)

theorem hwS3 (v : Byte) : Statement (.hwS3 v) :=
  of_row (r := ⟨"HW.S3", 0x1F00#13, 0x0C00#13⟩) rfl (by decide) rfl (busWord_and_mask _ _ _ v)

theorem hwD3 (v : Byte) : Statement (.hwD3 v) :=
  of_row (r := ⟨"HW.D3", 0x1F00#13, 0x0D00#13⟩) rfl (by decide) rfl (busWord_and_mask _ _ _ v)

theorem hwS4 (v : Byte) : Statement (.hwS4 v) :=
  of_row (r := ⟨"HW.S4", 0x1F00#13, 0x0E00#13⟩) rfl (by decide) rfl (busWord_and_mask _ _ _ v)

theorem hwD4 (v : Byte) : Statement (.hwD4 v) :=
  of_row (r := ⟨"HW.D4", 0x1F00#13, 0x0F00#13⟩) rfl (by decide) rfl (busWord_and_mask _ _ _ v)

theorem prS1 : Statement .prS1 :=
  of_row (r := ⟨"PR.S1", 0x1F00#13, 0x1000#13⟩) rfl (by decide) rfl rfl

theorem prD1 : Statement .prD1 :=
  of_row (r := ⟨"PR.D1", 0x1F00#13, 0x1100#13⟩) rfl (by decide) rfl rfl

theorem prS2 : Statement .prS2 :=
  of_row (r := ⟨"PR.S2", 0x1F00#13, 0x1200#13⟩) rfl (by decide) rfl rfl

theorem prD2 : Statement .prD2 :=
  of_row (r := ⟨"PR.D2", 0x1F00#13, 0x1300#13⟩) rfl (by decide) rfl rfl

theorem prS3 : Statement .prS3 :=
  of_row (r := ⟨"PR.S3", 0x1F00#13, 0x1400#13⟩) rfl (by decide) rfl rfl

theorem prD3 : Statement .prD3 :=
  of_row (r := ⟨"PR.D3", 0x1F00#13, 0x1500#13⟩) rfl (by decide) rfl rfl

theorem prS4 : Statement .prS4 :=
  of_row (r := ⟨"PR.S4", 0x1F00#13, 0x1600#13⟩) rfl (by decide) rfl rfl

theorem prD4 : Statement .prD4 :=
  of_row (r := ⟨"PR.D4", 0x1F00#13, 0x1700#13⟩) rfl (by decide) rfl rfl

theorem pwS1 (v : Byte) : Statement (.pwS1 v) :=
  of_row (r := ⟨"PW.S1", 0x1F00#13, 0x1800#13⟩) rfl (by decide) rfl (busWord_and_mask _ _ _ v)

theorem pwD1 (v : Byte) : Statement (.pwD1 v) :=
  of_row (r := ⟨"PW.D1", 0x1F00#13, 0x1900#13⟩) rfl (by decide) rfl (busWord_and_mask _ _ _ v)

theorem pwS2 (v : Byte) : Statement (.pwS2 v) :=
  of_row (r := ⟨"PW.S2", 0x1F00#13, 0x1A00#13⟩) rfl (by decide) rfl (busWord_and_mask _ _ _ v)

theorem pwD2 (v : Byte) : Statement (.pwD2 v) :=
  of_row (r := ⟨"PW.D2", 0x1F00#13, 0x1B00#13⟩) rfl (by decide) rfl (busWord_and_mask _ _ _ v)

theorem pwS3 (v : Byte) : Statement (.pwS3 v) :=
  of_row (r := ⟨"PW.S3", 0x1F00#13, 0x1C00#13⟩) rfl (by decide) rfl (busWord_and_mask _ _ _ v)

theorem pwD3 (v : Byte) : Statement (.pwD3 v) :=
  of_row (r := ⟨"PW.D3", 0x1F00#13, 0x1D00#13⟩) rfl (by decide) rfl (busWord_and_mask _ _ _ v)

theorem pwS4 (v : Byte) : Statement (.pwS4 v) :=
  of_row (r := ⟨"PW.S4", 0x1F00#13, 0x1E00#13⟩) rfl (by decide) rfl (busWord_and_mask _ _ _ v)

theorem pwD4 (v : Byte) : Statement (.pwD4 v) :=
  of_row (r := ⟨"PW.D4", 0x1F00#13, 0x1F00#13⟩) rfl (by decide) rfl (busWord_and_mask _ _ _ v)

theorem hreset : Statement .hreset :=
  of_code rfl (by simp [managementRows, Instr.mnemonic])

theorem loadcfg (source : List ConfigSection) : Statement (.loadcfg source) :=
  of_code rfl (by simp [managementRows, Instr.mnemonic])

theorem findcpu (name : String) : Statement (.findcpu name) :=
  of_code rfl (by simp [managementRows, Instr.mnemonic])

theorem select (index : Option Int) : Statement (.select index) :=
  of_code rfl (by simp [managementRows, Instr.mnemonic])

theorem attach (fs : FsAnswer) (initOk : Bool) : Statement (.attach fs initOk) :=
  of_code rfl (by simp [managementRows, Instr.mnemonic])

theorem speed (preset : Nat) : Statement (.speed preset) :=
  of_code rfl (by simp [managementRows, Instr.mnemonic])

theorem save : Statement .save :=
  of_code rfl (by simp [managementRows, Instr.mnemonic])

theorem load (tag aux : Byte) (block : List Byte) : Statement (.load tag aux block) :=
  of_code rfl (by simp [managementRows, Instr.mnemonic])

end Sys2Proof.Laws.EncodedRow
end

