-- ==== Sys2Proof/Tests/Slice0.lean ====
section
/-! SUPPORT. The model's own tests: the checks of WellFormed, the decoder against words written out from the spec's
tables, one or two steps of each operation against the examples and vectors of spec/, and a witness for the hypotheses
of every statement. -/

namespace Sys2Proof.Tests

open Sys2Proof Sys2Proof.Machine Sys2Proof.Config

/-! ## Helpers -/

def cpu6502 : CpuTypeDescriptor := ⟨"6502", 1, 2, none⟩
def cpuZ80 : CpuTypeDescriptor := ⟨"Z80", 3, 4, some 5⟩
def cfgA : TubeConfiguration := ⟨"A", some cpu6502, 0, "a", 2⟩
def cfgB : TubeConfiguration := ⟨"B", none, 0, "", 4⟩
def cfgC : TubeConfiguration := ⟨"C", some cpuZ80, 0, "", 3⟩

/-- A small machine: a FIFO of 4 bytes, `IDLE` 0xFE, the catalog of `95_test_vectors.md` V13. -/
def testParams : Params := ⟨4, 0xFE#8, [cpu6502, cpuZ80], [cfgA], false⟩

/-- Attached to the Z80 right after the hard reset of ATTACH. -/
def fresh : State where
  params := testParams
  ula := Ula.fresh 4
  att := true
  sel := some 2
  cpu := cpuZ80
  base := 3
  preset := 4
  mult := 6
  aux := false
  configs := [cfgA, cfgB, cfgC]
  input := []
  result := .nothing
  events := []

/-- The same machine with nothing attached. -/
def idle : State := { fresh with att := false, sel := none }

/-- `fresh` with its ULA state changed. -/
def freshWith (f : Ula → Ula) : State := { fresh with ula := f (Ula.fresh 4) }

/-- The state an outcome goes to. -/
def after : Host.Outcome State Fault Refusal → Option State
  | .next t => some t
  | .fault _ => none
  | .refused _ => none

def resultOf (o : Host.Outcome State Fault Refusal) : Option Result := (after o).map State.result
def ulaOf (o : Host.Outcome State Fault Refusal) : Option Ula := (after o).map State.ula
def eventsOf (o : Host.Outcome State Fault Refusal) : Option (List Event) := (after o).map State.events

/-- The states the tests start from, each a legal state of the block. -/
def oneInFifo : State := freshWith fun u =>
  { u with ph1 := ⟨[0x11#8, 0#8, 0#8, 0#8], 0, 1, 1⟩, hDA := { u.hDA with c1 := true }, cr := 0x09#7, pfl := 0x11#8 }
def twoInFifo : State := freshWith fun u =>
  { u with ph1 := ⟨[0x11#8, 0x22#8, 0#8, 0#8], 0, 2, 2⟩, hDA := { u.hDA with c1 := true } }
def threeInFifo : State := freshWith fun u =>
  { u with ph1 := ⟨[1#8, 2#8, 3#8, 0#8], 0, 3, 3⟩, hDA := { u.hDA with c1 := true } }
def fullFifo : State := freshWith fun u =>
  { u with
    ph1 := ⟨[1#8, 2#8, 3#8, 4#8], 3, 3, 4⟩, hDA := { u.hDA with c1 := true }, pSA := { u.pSA with c1 := false } }
/-- Channel 4 holds 0x07 for the host, Q set, host line asserted. -/
def hostPending : State := freshWith fun u =>
  { u with
    ph4 := 0x07#8, hDA := { u.hDA with c4 := true }, pSA := { u.pSA with c4 := false }, cr := 0x01#7, hirq := true }
/-- Channel 4 holds a byte for the host, Q clear. -/
def hostPendingMasked : State := freshWith fun u =>
  { u with ph4 := 0x07#8, hDA := { u.hDA with c4 := true }, pSA := { u.pSA with c4 := false } }
/-- Two-byte mode, `cr` given, one byte 0x34 of the host's datum written. -/
def halfWritten (cr : ControlBits) : State := freshWith fun u => { u with hp3 := ⟨0x34#8, 0#8, 1⟩, cr := cr }
/-- Two-byte mode with a whole datum of the parasite's in PH3. -/
def fullPH3 : State := freshWith fun u =>
  { u with
    ph3 := ⟨0xAA#8, 0xBB#8, 2⟩, hDA := { u.hDA with c3 := true }, pSA := { u.pSA with c3 := false }, cr := 0x10#7 }
/-- Two-byte mode with a whole datum of the host's in HP3, M set, NMI asserted. -/
def fullHP3 : State := freshWith fun u =>
  { u with
    hp3 := ⟨0x34#8, 0x12#8, 2⟩, pDA := { u.pDA with c3 := true }, hSA := { u.hSA with c3 := false }, cr := 0x18#7
    pnmi := true }
/-- Bytes for the parasite in HP1 (I set, IRQ asserted), HP2 and HP4 (J clear). -/
def parasitePending : State := freshWith fun u =>
  { u with
    hp1 := 0x41#8, hp2 := 0x5A#8, hp4 := 0x80#8, pDA := ⟨true, true, false, true⟩, hSA := ⟨false, false, true, false⟩
    cr := 0x02#7, pirq := true }
/-- P, M, Q set. -/
def held : State := freshWith fun u => { u with cr := 0x29#7 }

/-! ## WellFormed -/

theorem test_wellFormed_refuses_section_without_speed :
    Instr.wellFormed (.loadcfg [⟨some "A", some "6502", none, none, none⟩]) = false := by decide

theorem test_wellFormed_accepts_section_with_speed :
    Instr.wellFormed (.loadcfg [⟨some "A", some "6502", none, none, some 2⟩]) = true := by decide

theorem test_wellFormed_refuses_empty_fifo :
    Params.wellFormed { testParams with fifoDepth := 0 } = false ∧ testParams.wellFormed = true := by decide

/-! ## Decode: words written out from the encoding column of the opcode table (R93) -/

theorem test_decode_host_reads :
    decode (.bus 0b0000000000000#13) = .ok .hrS1 ∧ decode (.bus 0b0000100000000#13) = .ok .hrD1 ∧
    decode (.bus 0b0001000000000#13) = .ok .hrS2 ∧ decode (.bus 0b0001100000000#13) = .ok .hrD2 ∧
    decode (.bus 0b0010000000000#13) = .ok .hrS3 ∧ decode (.bus 0b0010100000000#13) = .ok .hrD3 ∧
    decode (.bus 0b0011000000000#13) = .ok .hrS4 ∧ decode (.bus 0b0011111111111#13) = .ok .hrD4 := by decide

theorem test_decode_host_writes :
    decode (.bus 0b0100010000001#13) = .ok (.hwCtlSet 0b0000001#7) ∧
    decode (.bus 0b0100001000000#13) = .ok (.hwCtlClr 0b1000000#7) ∧
    decode (.bus 0b0100101000001#13) = .ok (.hwD1 0x41#8) ∧ decode (.bus 0b0101011111111#13) = .ok (.hwS2 0xFF#8) ∧
    decode (.bus 0b0101101011010#13) = .ok (.hwD2 0x5A#8) ∧ decode (.bus 0b0110000010010#13) = .ok (.hwS3 0x12#8) ∧
    decode (.bus 0b0110110011001#13) = .ok (.hwD3 0x99#8) ∧ decode (.bus 0b0111000000000#13) = .ok (.hwS4 0x00#8) ∧
    decode (.bus 0b0111110000000#13) = .ok (.hwD4 0x80#8) := by decide

theorem test_decode_parasite_reads :
    decode (.bus 0b1000000000000#13) = .ok .prS1 ∧ decode (.bus 0b1000100000000#13) = .ok .prD1 ∧
    decode (.bus 0b1001000000000#13) = .ok .prS2 ∧ decode (.bus 0b1001100000000#13) = .ok .prD2 ∧
    decode (.bus 0b1010000000000#13) = .ok .prS3 ∧ decode (.bus 0b1010100000000#13) = .ok .prD3 ∧
    decode (.bus 0b1011000000000#13) = .ok .prS4 ∧ decode (.bus 0b1011100000000#13) = .ok .prD4 := by decide

theorem test_decode_parasite_writes :
    decode (.bus 0b1100011111111#13) = .ok (.pwS1 0xFF#8) ∧ decode (.bus 0b1100100010001#13) = .ok (.pwD1 0x11#8) ∧
    decode (.bus 0b1101000110011#13) = .ok (.pwS2 0x33#8) ∧ decode (.bus 0b1101101011010#13) = .ok (.pwD2 0x5A#8) ∧
    decode (.bus 0b1110000000001#13) = .ok (.pwS3 0x01#8) ∧ decode (.bus 0b1110110101010#13) = .ok (.pwD3 0xAA#8) ∧
    decode (.bus 0b1111000000000#13) = .ok (.pwS4 0x00#8) ∧
    decode (.bus 0b1111100000111#13) = .ok (.pwD4 0x07#8) := by decide

theorem test_decode_management :
    decode (.mgmt 0b0000#4 .nothing) = .ok .hreset ∧
    decode (.mgmt 0b0001#4 (.source [])) = .ok (.loadcfg []) ∧
    decode (.mgmt 0b0010#4 (.name "Z80")) = .ok (.findcpu "Z80") ∧
    decode (.mgmt 0b0011#4 (.index (some (-1)))) = .ok (.select (some (-1))) ∧
    decode (.mgmt 0b0100#4 (.answers .failed true)) = .ok (.attach .failed true) ∧
    decode (.mgmt 0b0101#4 (.preset 4)) = .ok (.speed 4) ∧
    decode (.mgmt 0b0110#4 .nothing) = .ok .save ∧
    decode (.mgmt 0b0111#4 (.saved 2#8 0#8 [])) = .ok (.load 2#8 0#8 []) := by decide

/-- R82, R65, U12: what is no operation. -/
theorem test_decode_refuses :
    decode (.mgmt 0b1000#4 .nothing) = .error (.unassignedCode 8#4) ∧
    decode (.mgmt 0b1111#4 (.preset 1)) = .error (.unassignedCode 15#4) ∧
    decode (.mgmt 0b0101#4 .nothing) = .error (.wrongOperands 5#4) ∧
    decode (.access .host .read 0 2 0#8) = .error (.wideAccess 2) ∧
    decode (.access .parasite .write 8 1 0#8) = .error (.noSuchAddress 8) ∧
    decode (packetOfWord 13 8192) = .error (.noFormat 13 8192) := by decide

/-- The table's own bits, as the host asks for them: 13-bit rows in two bytes, 4-bit rows in one. -/
theorem test_decodeTableWord :
    decodeTableWord 16 0x0B5A = some (.hwD2 0x5A#8) ∧ decodeTableWord 16 0x1F00 = some (.pwD4 0#8) ∧
    decodeTableWord 8 0x7 = some (.load 0#8 0#8 []) ∧ decodeTableWord 8 0x8 = none := by decide

/-- The channel and kind of register a selector addresses (R83). -/
theorem test_selector :
    selectorChannel 0#3 = 1 ∧ selectorChannel 5#3 = 3 ∧ selectorChannel 7#3 = 4 ∧
    selectorIsData 4#3 = false ∧ selectorIsData 5#3 = true := by decide

/-! ## Host operations -/

/-- R111: CR = 0x09 and one byte in PH1 read 0xC9. -/
theorem test_hrS1 : resultOf (exec .hrS1 oneInFifo) = some (.byte 0xC9#8) := by decide

/-- R112, V3: the pop of a full FIFO whose head is at the last slot wraps the head and re-opens space. -/
theorem test_hrD1_wraps :
    resultOf (exec .hrD1 fullFifo) = some (.byte 4#8) ∧
    (ulaOf (exec .hrD1 fullFifo)).map (fun u => (u.ph1.head, u.ph1.count, u.pSA.c1, u.hDA.c1)) =
      some (0, 3, true, true) := by decide

/-- R112: the last pop clears H_DA[1], and an empty FIFO answers HFL. -/
theorem test_hrD1_empties :
    (ulaOf (exec .hrD1 oneInFifo)).map (fun u => u.hDA.c1) = some false ∧
    resultOf (exec .hrD1 (freshWith fun u => { u with hfl := 0x3C#8 })) = some (.byte 0x3C#8) := by decide

/-- R113: after hard reset 0x40. -/
theorem test_hrS2 : resultOf (exec .hrS2 fresh) = some (.byte 0x40#8) := by decide

/-- R114: the stale byte, flags written unconditionally. -/
theorem test_hrD2 :
    resultOf (exec .hrD2 (freshWith fun u => { u with ph2 := 0x5A#8 })) = some (.byte 0x5A#8) := by decide

/-- R115: a whole two-byte datum reads 0xC0. -/
theorem test_hrS3 : resultOf (exec .hrS3 fullPH3) = some (.byte 0xC0#8) := by decide

/-- R116: `HR D3 -> 0xAA`, H_DA[3] stays 1, P_SA[3] <- 1, the slots shift down. -/
theorem test_hrD3 :
    resultOf (exec .hrD3 fullPH3) = some (.byte 0xAA#8) ∧
    (ulaOf (exec .hrD3 fullPH3)).map (fun u => (u.ph3, u.hDA.c3, u.pSA.c3)) =
      some (⟨0xBB#8, 0xBB#8, 1⟩, true, true) := by decide

/-- R117: after `PW D4, 0x07`, `HR S4 -> 0xC0`. -/
theorem test_hrS4 : resultOf (exec .hrS4 hostPending) = some (.byte 0xC0#8) := by decide

/-- R118: Q set, `HR D4 -> 0x07`, HIRQ falls. -/
theorem test_hrD4 :
    resultOf (exec .hrD4 hostPending) = some (.byte 0x07#8) ∧
    eventsOf (exec .hrD4 hostPending) = some [.hostIrq false] := by decide

/-- R120: CR = 0x01, `HW S1, 0xC0` gives CR = 0x41, all channels cleared, HIRQ falls. -/
theorem test_hwCtlSet_soft_reset :
    (ulaOf (exec (.hwCtlSet 0x40#7) hostPending)).map (fun u => (u.cr, u.hDA.c4, u.ph4, u.hfl)) =
      some (0x41#7, false, 0#8, 0xC0#8) ∧
    eventsOf (exec (.hwCtlSet 0x40#7) hostPending) = some [.hostIrq false] := by decide

/-- R120: CR = 0x00, H_DA[4] = 1, `HW S1, 0x81` gives CR = 0x01, HIRQ rises. -/
theorem test_hwCtlSet_enables :
    (ulaOf (exec (.hwCtlSet 0x01#7) hostPendingMasked)).map (fun u => (u.cr, u.hirq)) = some (0x01#7, true) ∧
    eventsOf (exec (.hwCtlSet 0x01#7) hostPendingMasked) = some [.hostIrq true] := by decide

/-- R121: CR = 0x29, `HW S1, 0x20` gives CR = 0x09 and one `CpuReset()`. -/
theorem test_hwCtlClr_releases_hold :
    (ulaOf (exec (.hwCtlClr 0x20#7) held)).map (fun u => (u.cr, u.hfl)) = some (0x09#7, 0x20#8) ∧
    eventsOf (exec (.hwCtlClr 0x20#7) held) = some [.cpuReset cpuZ80] := by decide

/-- V8: the line events come before the reset call. -/
theorem test_hwCtlClr_event_order :
    eventsOf (exec (.hwCtlClr 0x29#7) { hostPending with ula := { hostPending.ula with cr := 0x21#7 } }) =
      some [.hostIrq false, .cpuReset cpuZ80] := by decide

/-- R122: I set, `HW D1, 0x41`: P_DA[1] = 1, PIRQ rises. -/
theorem test_hwD1 :
    (ulaOf (exec (.hwD1 0x41#8) (freshWith fun u => { u with cr := 0x02#7 }))).map
      (fun u => (u.hp1, u.pDA.c1, u.hSA.c1)) = some (0x41#8, true, false) ∧
    eventsOf (exec (.hwD1 0x41#8) (freshWith fun u => { u with cr := 0x02#7 })) = some [.parIrq cpuZ80 true] := by
  decide

/-- R123: only HFL. -/
theorem test_hwS2 : ulaOf (exec (.hwS2 0xFF#8) parasitePending) = some { parasitePending.ula with hfl := 0xFF#8 } := by
  decide

/-- R124, R129, V4: an unread byte is overwritten. -/
theorem test_hwD2 :
    (ulaOf (exec (.hwD2 0x02#8) parasitePending)).map (fun u => (u.hp2, u.pDA.c2, u.hSA.c2)) =
      some (0x02#8, true, false) := by decide

/-- R125: only HFL. -/
theorem test_hwS3 : ulaOf (exec (.hwS3 0x12#8) fullHP3) = some { fullHP3.ula with hfl := 0x12#8 } := by decide

/-- R126: V and M set, the second byte completes the datum and PNMI rises. -/
theorem test_hwD3_completes :
    (ulaOf (exec (.hwD3 0x12#8) (halfWritten 0x18#7))).map (fun u => (u.hp3, u.pDA.c3, u.hSA.c3)) =
      some (⟨0x34#8, 0x12#8, 2⟩, true, false) ∧
    eventsOf (exec (.hwD3 0x12#8) (halfWritten 0x18#7)) = some [.parNmi cpuZ80 true] := by decide

/-- R126: the third write is dropped, HFL still loaded. -/
theorem test_hwD3_drops :
    ulaOf (exec (.hwD3 0x99#8) fullHP3) = some { fullHP3.ula with hfl := 0x99#8 } := by decide

/-- R127: only HFL. -/
theorem test_hwS4 : ulaOf (exec (.hwS4 0x3C#8) fresh) = some { fresh.ula with hfl := 0x3C#8 } := by decide

/-- R128: J set, `HW D4, 0x80`: PIRQ rises. -/
theorem test_hwD4 :
    eventsOf (exec (.hwD4 0x80#8) (freshWith fun u => { u with cr := 0x04#7 })) = some [.parIrq cpuZ80 true] ∧
    (ulaOf (exec (.hwD4 0x80#8) fresh)).map (fun u => (u.hp4, u.pDA.c4, u.hSA.c4, u.pirq)) =
      some (0x80#8, true, false, false) := by decide

/-! ## Parasite operations -/

/-- R151: after `HW D1, 0x41` with CR = 0x02, `PR S1 -> 0xC2`. -/
theorem test_prS1 : resultOf (exec .prS1 parasitePending) = some (.byte 0xC2#8) := by decide

/-- R152: `PR D1 -> 0x41`, PIRQ falls. -/
theorem test_prD1 :
    resultOf (exec .prD1 parasitePending) = some (.byte 0x41#8) ∧
    eventsOf (exec .prD1 parasitePending) = some [.parIrq cpuZ80 false] := by decide

/-- R153: after `HW D2`, `PR S2 -> 0xC0`. -/
theorem test_prS2 : resultOf (exec .prS2 parasitePending) = some (.byte 0xC0#8) := by decide

/-- R154. -/
theorem test_prD2 :
    resultOf (exec .prD2 parasitePending) = some (.byte 0x5A#8) ∧
    (ulaOf (exec .prD2 parasitePending)).map (fun u => (u.pDA.c2, u.hSA.c2, u.hp2)) =
      some (false, true, 0x5A#8) := by decide

/-- V6: `PR S3 -> 0xC0` over a whole datum. -/
theorem test_prS3 : resultOf (exec .prS3 fullHP3) = some (.byte 0xC0#8) := by decide

/-- R156: `PR D3 -> 0x34`, PNMI stays 1 with no new event. -/
theorem test_prD3_first :
    resultOf (exec .prD3 fullHP3) = some (.byte 0x34#8) ∧ eventsOf (exec .prD3 fullHP3) = some [] := by decide

/-- R156: on an empty buffer the answer is PFL. -/
theorem test_prD3_empty :
    resultOf (exec .prD3 (freshWith fun u => { u with pfl := 0x46#8 })) = some (.byte 0x46#8) := by decide

/-- R157: data and, in the other direction, no space: 0x80. -/
theorem test_prS4 :
    resultOf (exec .prS4 (freshWith fun u =>
      { u with pDA := { u.pDA with c4 := true }, pSA := { u.pSA with c4 := false } })) = some (.byte 0x80#8) := by
  decide

/-- R158, R250: PIRQ is held by channel 1. -/
theorem test_prD4 :
    resultOf (exec .prD4 parasitePending) = some (.byte 0x80#8) ∧ eventsOf (exec .prD4 parasitePending) = some [] := by
  decide

/-- R160: CR is not changed. -/
theorem test_pwS1 : ulaOf (exec (.pwS1 0xFF#8) hostPending) = some { hostPending.ula with pfl := 0xFF#8 } := by decide

/-- R161, V3: the fourth byte fills a FIFO of four and clears P_SA[1]; the tail wraps. -/
theorem test_pwD1_fills :
    (ulaOf (exec (.pwD1 4#8) threeInFifo)).map (fun u => (u.ph1, u.pSA.c1)) =
      some (⟨[1#8, 2#8, 3#8, 4#8], 0, 0, 4⟩, false) := by decide

/-- R161: a write to a full FIFO is dropped, PFL still loaded. -/
theorem test_pwD1_drops : ulaOf (exec (.pwD1 0x99#8) fullFifo) = some { fullFifo.ula with pfl := 0x99#8 } := by decide

/-- R162. -/
theorem test_pwS2 : ulaOf (exec (.pwS2 0x33#8) fresh) = some { fresh.ula with pfl := 0x33#8 } := by decide

/-- R163: `PW D2, 0x5A` sets H_DA[2], clears P_SA[2]. -/
theorem test_pwD2 :
    (ulaOf (exec (.pwD2 0x5A#8) fresh)).map (fun u => (u.ph2, u.hDA.c2, u.pSA.c2)) = some (0x5A#8, true, false) := by
  decide

/-- R164. -/
theorem test_pwS3 : ulaOf (exec (.pwS3 0x01#8) fresh) = some { fresh.ula with pfl := 0x01#8 } := by decide

/-- R165: V clear, one byte completes the datum. -/
theorem test_pwD3 :
    (ulaOf (exec (.pwD3 0xAA#8) fresh)).map (fun u => (u.ph3, u.hDA.c3, u.pSA.c3)) =
      some (⟨0xAA#8, 0#8, 1⟩, true, false) := by decide

/-- R165, C2: V set, the first byte sets no flag. -/
theorem test_pwD3_half :
    (ulaOf (exec (.pwD3 0x01#8) (freshWith fun u => { u with cr := 0x10#7 }))).map
      (fun u => (u.ph3.occ, u.hDA.c3, u.pSA.c3)) = some (1, false, true) := by decide

/-- R166. -/
theorem test_pwS4 : ulaOf (exec (.pwS4 0x00#8) oneInFifo) = some { oneInFifo.ula with pfl := 0x00#8 } := by decide

/-- R167: Q set, `PW D4, 0x07`: HIRQ rises; R255: over unread data there is no new event. -/
theorem test_pwD4 :
    eventsOf (exec (.pwD4 0x07#8) (freshWith fun u => { u with cr := 0x01#7 })) = some [.hostIrq true] ∧
    eventsOf (exec (.pwD4 0x0B#8) hostPending) = some [] := by decide

/-! ## Management events -/

/-- V11: the three lines fall, in order, and no `CpuReset()` although P goes from 1 to 0; the end state is fresh. -/
theorem test_hreset :
    (after (exec .hreset (freshWith fun u =>
      { u with
        hDA := { u.hDA with c4 := true }, pDA := ⟨true, false, true, false⟩, cr := 0x3F#7, hirq := true, pirq := true
        pnmi := true, hfl := 0x66#8 }))).map (fun t => (t.events, t.ula)) =
      some ([.hostIrq false, .parIrq cpuZ80 false, .parNmi cpuZ80 false], Ula.fresh 4) := by decide

/-- V13: a resolved name, an unresolved one, which stays in the list, and the absent keys. -/
theorem test_loadcfg :
    (after (exec (.loadcfg
      [⟨some "A", some "6502", none, some "a", some 2⟩, ⟨some "B", some "Q99", none, none, some 4⟩,
        ⟨some "C", some "Z80", none, none, some 3⟩]) idle)).map State.configs = some [cfgA, cfgB, cfgC] := by decide

/-- R192: no tube sections. -/
theorem test_loadcfg_default : (after (exec (.loadcfg []) idle)).map State.configs = some [cfgA] := by decide

/-- R191. -/
theorem test_findcpu :
    resultOf (exec (.findcpu "Z80") idle) = some (.descriptor (some cpuZ80)) ∧
    resultOf (exec (.findcpu "Q99") idle) = some (.descriptor none) := by decide

/-- V13: an index out of range, and `SELECT 0`. -/
theorem test_select :
    (after (exec (.select (some 5)) idle)).map State.sel = some none ∧
    (after (exec (.select (some 0)) idle)).map State.sel = some (some 0) := by decide

/-- V13: `SELECT none` while the host line is asserted detaches with one `HostIRQ(0)`. -/
theorem test_select_none :
    (after (exec (.select none) hostPending)).map (fun t => (t.att, t.sel, t.ula.hirq, t.events)) =
      some (false, none, false, [.hostIrq false]) := by decide

/-- V13: a re-attach detaches first; `PRESET = 4`, speed 2 give `MULT = 4`. -/
theorem test_attach :
    (after (exec (.attach (.bytes [9#8]) true) { hostPending with sel := some 0 })).map
      (fun t => (t.att, t.cpu, t.base, t.mult, t.events)) =
      some (true, cpu6502, 2, 4, [.hostIrq false, .cpuInit cpu6502 (some [9#8])]) := by decide

/-- V13: a failed image logs one resource error and disables the coprocessor. -/
theorem test_attach_failed :
    (after (exec (.attach .failed true) { idle with sel := some 0 })).map (fun t => (t.att, t.sel, t.events)) =
      some (false, none, [.logResourceError]) := by decide

/-- V12, V13: 3 * 3 div 2 = 4; while detached the multiplier keeps its value. -/
theorem test_speed :
    (after (exec (.speed 3) fresh)).map State.mult = some 4 ∧
    (after (exec (.speed 7) idle)).map (fun t => (t.preset, t.mult)) = some (7, 6) := by decide

/-- R221: the version byte comes first and nothing changes. -/
theorem test_save :
    exec .save fresh = .next { fresh with
      result := .saved (2#8 :: codec.auxByte false :: codec.encode2 4 (Ula.fresh 4)) } := rfl

/-- A state of the type loads from the block SAVE writes for it. -/
theorem load_saved {s : State} {u : Ula} (aux : Bool) (w : u.WellTyped s.params.fifoDepth) :
    exec (.load 2#8 (codec.auxByte aux) (codec.encode2 s.params.fifoDepth u)) s = finishLoad u aux s := by
  simp only [exec, execLoad, if_true, if_pos (codec_encode2_length s.params.fifoDepth u), codec_decode2_encode2 w,
    codec_auxBit_auxByte]

/-- R222, R248, V14 (d): a state with its cached host line 1 loads whole while detached, with no event, and the line the
environment observes stays 0. -/
theorem test_load_detached :
    ∃ t, exec (.load 2#8 (codec.auxByte true) (codec.encode2 4 hostPending.ula)) idle = .next t ∧
      t.events = [] ∧ t.ula = hostPending.ula ∧ t.aux = true ∧ t.hostIrqLine = false :=
  ⟨{ idle with ula := hostPending.ula, aux := true },
    (load_saved (s := idle) true (by decide)).trans (if_pos (by decide)), rfl, rfl, rfl, rfl⟩

/-- U18: an empty current block is too short. -/
theorem test_load_short : exec (.load 2#8 0#8 []) fresh = .refused (.blockLength 0) := by
  have h : ¬ ([] : List Byte).length = codec.blockLength fresh.params.fifoDepth := by
    have := codec_blockLength_pos fresh.params.fifoDepth
    simp; omega
  simp only [exec, execLoad, if_true]
  exact if_neg h

/-! ## The step, and detached accesses -/

/-- V10: at power-on `HR S1 -> 0xFE`, through the interface the host uses. -/
theorem test_step_at_reset :
    resultOf (step (State.reset.withFetchWord 16 0x0000)) = some (.byte 0xFE#8) := by decide

/-- V10: a write while detached changes nothing. -/
theorem test_step_detached_write :
    ulaOf (step (State.reset.withFetchWord 16 0x088F)) = some (Ula.fresh 24) := by decide

/-- R82: a step on an unassigned code is refused by name. -/
theorem test_step_refuses_code :
    step { fresh with input := [.mgmt 8#4 .nothing] } = .refused (.undecodable (.unassignedCode 8#4)) := rfl

/-- R264: the environment's view of reset-hold. -/
theorem test_parasiteMayAct :
    parasiteMayAct held = true ∧
    parasiteMayAct { held with params := { testParams with holdStopsParasite := true } } = false := by decide

/-- R194: the answers allowed for a configuration. -/
theorem test_bootAnswerAllowed :
    bootAnswerAllowed cfgC .noneNeeded = true ∧ bootAnswerAllowed cfgA .noneNeeded = false ∧
    bootAnswerAllowed { cfgA with romsize := 2 } (.bytes [1#8]) = false ∧ bootAnswerAllowed cfgA .failed = true := by
  decide

/-! ## Witnesses: a concrete state and operands for the hypotheses of each statement, at the boundaries of its clauses -/

/-- Both directions of the word. -/
theorem witness_EncodingABusWordKeepsItsBits :
    (0x0B5A#13).getLsbD 11 = true ∧ (0x01FF#13).getLsbD 11 = false := by decide

/-- The first unassigned code, presented. -/
theorem witness_ManagementCodesNameTheEvents :
    8 ≤ (8#4).toNat ∧ { fresh with input := [.mgmt 8#4 .nothing] }.input = .mgmt 8#4 .nothing :: [] := by decide

/-- Addresses 7 and 8, widths 1 and 2: the four sides of the two bounds. -/
theorem witness_OnlyByteAccessesToEightAddressesAreOperations :
    decode (.access .parasite .write 7 1 0x07#8) = .ok (.pwD4 0x07#8) ∧
    decode (.access .host .read 8 1 0#8) = .error (.noSuchAddress 8) ∧
    decode (.access .host .read 7 0 0#8) = .error (.wideAccess 0) := by decide

/-- An operation, a packet that is none, and nothing presented. -/
theorem witness_StepPerformsTheNextPresentedOperation :
    ({ fresh with input := [.bus 0x0100#13] }.input = .bus 0x0100#13 :: [] ∧ decode (.bus 0x0100#13) = .ok .hrD1) ∧
    ({ fresh with input := [.foreign 16 8192] }.input = .foreign 16 8192 :: [] ∧
      decode (.foreign 16 8192) = .error (.noFormat 16 8192)) ∧
    fresh.input = [] := by decide

/-- A full FIFO and a write to it. -/
theorem witness_StepKeepsStateInvariant :
    ∃ t, StateInv { fullFifo with input := [.bus 0x1999#13] } ∧
      step { fullFifo with input := [.bus 0x1999#13] } = .next t := ⟨_, by decide, rfl⟩

theorem witness_StepKeepsFlagsInAgreement :
    ∃ t, StateInv { threeInFifo with input := [.bus 0x1904#13] } ∧
      FlagsAgree { threeInFifo with input := [.bus 0x1904#13] }.params.fifoDepth threeInFifo.ula ∧
      NextIsNotLoad { threeInFifo with input := [.bus 0x1904#13] } ∧
      step { threeInFifo with input := [.bus 0x1904#13] } = .next t := by
  refine ⟨_, by decide, by decide, ?_, rfl⟩
  intro packet rest tag aux block h d
  injection h with h h'
  subst h
  have e : decode (.bus 0x1904#13) = .ok (.pwD1 4#8) := rfl
  rw [e] at d
  injection d with d
  cases d

theorem witness_StepKeepsParameters :
    ∃ t, step { fresh with input := [.mgmt 5#4 (.preset 8)] } = .next t := ⟨_, rfl⟩

theorem witness_PowerOnIsDetached : performerOf .hrD4 = .bus .host .read 7#3 := rfl

theorem witness_DetachedBusTransactionsAreNoOps :
    idle.att = false ∧ performerOf .prD1 = .bus .parasite .read 1#3 ∧
    performerOf (.hwCtlSet 0x0F#7) = .bus .host .write 0#3 := by decide

/-- A bus transaction, an HRESET, an ATTACH and a LOAD that end attached. -/
theorem witness_LinesAreDerivedAfterEveryRecompute :
    (∃ t, exec (.hwCtlSet 0x01#7) hostPendingMasked = .next t ∧ t.att = true ∧
      agentOf (.hwCtlSet 0x01#7) ≠ .environment) ∧
    (∃ t, exec .hreset hostPending = .next t ∧ t.att = true) ∧
    (∃ t, exec (.attach .noneNeeded true) { idle with sel := some 2 } = .next t ∧ t.att = true) ∧
    (∃ t, exec (.load 2#8 (codec.auxByte true) (codec.encode2 4 hostPending.ula)) fresh = .next t ∧ t.att = true) := by
  refine ⟨⟨_, rfl, rfl, by decide⟩, ⟨_, rfl, rfl⟩, ⟨_, rfl, rfl⟩, ?_⟩
  exact ⟨_, (load_saved (s := fresh) true (by decide)).trans (if_pos (by decide)), rfl⟩

/-- Both sides of attachment, and an ATTACH over cached lines left by a LOAD made while detached. -/
theorem witness_WhileDetachedLinesAreLowAndNoSetterIsCalled :
    fresh.att = true ∧ idle.att = false ∧
    ∃ t, exec (.attach .noneNeeded true) { idle with sel := some 2, ula := hostPending.ula } = .next t ∧
      t.events = [.cpuInit cpuZ80 none] := ⟨rfl, rfl, _, rfl, by decide⟩

theorem witness_SettersAreCalledExactlyOnChanges :
    ∃ t, agentOf .hrD4 ≠ .environment ∧ exec .hrD4 hostPending = .next t ∧
      hostPending.ula.hirq ≠ t.ula.hirq := ⟨_, by decide, rfl, by decide⟩

/-- The invariant and attachment with each clause's own condition. -/
theorem witness_QuietOperationsEmitNothing :
    (StateInv hostPending ∧ hostPending.att = true ∧ ∃ t, exec .hrS4 hostPending = .next t) ∧
    (∃ t, exec (.pwS1 0xFF#8) hostPending = .next t) ∧
    (StateInv fullFifo ∧ fullFifo.att = true ∧ fullFifo.ula.ph1.count = fullFifo.params.fifoDepth ∧
      ∃ t, exec (.pwD1 0x99#8) fullFifo = .next t) ∧
    (StateInv fullHP3 ∧ fullHP3.att = true ∧
      (if fullHP3.ula.cr.getLsbD 4 then 2 else 1) ≤ fullHP3.ula.hp3.occ ∧
      ∃ t, exec (.hwD3 0x99#8) fullHP3 = .next t) ∧
    (StateInv fullPH3 ∧ fullPH3.att = true ∧
      (if fullPH3.ula.cr.getLsbD 4 then 2 else 1) ≤ fullPH3.ula.ph3.occ ∧
      ∃ t, exec (.pwD3 0x99#8) fullPH3 = .next t) ∧
    (StateInv fresh ∧ fresh.att = true ∧ fresh.ula.hDA.c2 = false ∧ fresh.ula.hDA.c4 = false ∧
      fresh.ula.pDA.c1 = false ∧ fresh.ula.pDA.c2 = false ∧ fresh.ula.pDA.c4 = false ∧
      (∃ t, exec .hrD2 fresh = .next t) ∧ (∃ t, exec .hrD4 fresh = .next t) ∧ (∃ t, exec .prD1 fresh = .next t) ∧
      (∃ t, exec .prD2 fresh = .next t) ∧ ∃ t, exec .prD4 fresh = .next t) :=
  ⟨⟨by decide, rfl, _, rfl⟩, ⟨_, rfl⟩, ⟨by decide, rfl, rfl, _, rfl⟩, ⟨by decide, rfl, by decide, _, rfl⟩,
    ⟨by decide, rfl, by decide, _, rfl⟩,
    ⟨by decide, rfl, rfl, rfl, rfl, rfl, rfl, ⟨_, rfl⟩, ⟨_, rfl⟩, ⟨_, rfl⟩, ⟨_, rfl⟩, ⟨_, rfl⟩⟩⟩

theorem witness_OnlyControlWritesResetsAndLoadsChangeCR :
    ∃ t, exec (.hwCtlSet 0x01#7) fresh = .next t ∧ t.ula.cr ≠ fresh.ula.cr := ⟨_, rfl, by decide⟩

/-- One operation of each side (the set-mode control write over T = 1 among the host's), and two of the environment. -/
theorem witness_SidesKeepToTheirRights :
    (∃ t, exec .prD3 fullHP3 = .next t ∧ agentOf .prD3 = .parasite) ∧
    (∃ t, exec .hrD3 fullPH3 = .next t ∧ agentOf .hrD3 = .host ∧
      ∀ m, Instr.hrD3 = .hwCtlSet m → ¬ (fullPH3.ula.cr.getLsbD 6 = false ∧ m.getLsbD 6 = true)) ∧
    (∃ t, exec (.hwCtlSet 0x41#7) (freshWith fun u => { u with cr := 0x40#7 }) = .next t ∧
      ∀ m, Instr.hwCtlSet 0x41#7 = .hwCtlSet m → ¬ ((0x40#7).getLsbD 6 = false ∧ m.getLsbD 6 = true)) ∧
    (∃ t, exec (.speed 2) fresh = .next t) ∧ (∃ t, exec (.select none) hostPending = .next t) :=
  ⟨⟨_, rfl, rfl⟩, ⟨_, rfl, rfl, by intro m h; cases h⟩, ⟨_, rfl, by intro m _ h; exact absurd h.1 (by decide)⟩, ⟨_, rfl⟩,
    ⟨_, rfl⟩⟩

theorem witness_OnlyTheReleaseOfHoldCallsCpuReset :
    ∃ t, exec (.hwCtlClr 0x20#7) held = .next t ∧ t.events = held.events ++ [.cpuReset cpuZ80] := ⟨_, rfl, by decide⟩

theorem witness_HostStatusReadsReturnTheHostView : oneInFifo.att = true := rfl

/-- The last byte of the FIFO, and the empty FIFO. -/
theorem witness_HostFifoReadPopsOrFallsBack :
    (oneInFifo.att = true ∧ 0 < oneInFifo.ula.ph1.count) ∧ (fresh.att = true ∧ fresh.ula.ph1.count = 0) := by decide

theorem witness_HostLatchReadsReturnTheLatch : hostPending.att = true := rfl

theorem witness_HostShiftReadPopsOrFallsBack :
    (fullPH3.att = true ∧ 0 < fullPH3.ula.ph3.occ) ∧ (fresh.att = true ∧ fresh.ula.ph3.occ = 0) := by decide

/-- A control byte without T, with T over T = 1, and with T over T = 0. -/
theorem witness_SetModeControlWrite :
    fresh.att = true ∧
    ((0x81#8).getLsbD 7 = true ∧ ¬ (fresh.ula.cr.getLsbD 6 = false ∧ (0x81#8).getLsbD 6 = true)) ∧
    ¬ ((0x41#7).getLsbD 6 = false ∧ (0xC0#8).getLsbD 6 = true) ∧
    ((0xC0#8).getLsbD 7 = true ∧ fresh.ula.cr.getLsbD 6 = false ∧ (0xC0#8).getLsbD 6 = true) := by decide

/-- P released, and P already clear. -/
theorem witness_ClearModeControlWrite :
    (held.att = true ∧ (0x20#8).getLsbD 7 = false ∧ held.ula.cr.getLsbD 5 = true ∧ (0x20#8).getLsbD 5 = true) ∧
    (fresh.att = true ∧ ¬ (fresh.ula.cr.getLsbD 5 = true ∧ (0x20#8).getLsbD 5 = true)) := by decide

theorem witness_HostLatchWritesStoreAndFlag : parasitePending.att = true := rfl

theorem witness_IgnoredHostWritesLoadHflOnly : fresh.att = true := rfl

/-- Each width and occupancy. -/
theorem witness_HostShiftWriteByWidthAndOccupancy :
    (fresh.att = true ∧ fresh.ula.cr.getLsbD 4 = false ∧ fresh.ula.hp3.occ = 0) ∧
    (fullPH3.att = true ∧ fullPH3.ula.cr.getLsbD 4 = true ∧ fullPH3.ula.hp3.occ = 0) ∧
    ((halfWritten 0x18#7).att = true ∧ (halfWritten 0x18#7).ula.cr.getLsbD 4 = true ∧
      (halfWritten 0x18#7).ula.hp3.occ = 1) ∧
    ((halfWritten 0#7).att = true ∧
      (if (halfWritten 0#7).ula.cr.getLsbD 4 then 2 else 1) ≤ (halfWritten 0#7).ula.hp3.occ) ∧
    (fullHP3.att = true ∧ (if fullHP3.ula.cr.getLsbD 4 then 2 else 1) ≤ fullHP3.ula.hp3.occ) := by decide

theorem witness_ParasiteStatusReadsReturnTheParasiteView : parasitePending.att = true := rfl

theorem witness_ParasiteLatchReadsReturnTheLatch : parasitePending.att = true := rfl

theorem witness_ParasiteShiftReadPopsOrFallsBack :
    (fullHP3.att = true ∧ 0 < fullHP3.ula.hp3.occ) ∧ (fresh.att = true ∧ fresh.ula.hp3.occ = 0) := by decide

theorem witness_IgnoredParasiteWritesLoadPflOnly : fresh.att = true := rfl

/-- One place left, and none. -/
theorem witness_ParasiteFifoWritePushesOrDrops :
    (threeInFifo.att = true ∧ threeInFifo.ula.ph1.count < threeInFifo.params.fifoDepth) ∧
    (fullFifo.att = true ∧ fullFifo.params.fifoDepth ≤ fullFifo.ula.ph1.count) := by decide

theorem witness_ParasiteLatchWritesStoreAndFlag : hostPending.att = true := rfl

/-- The parasite's half of a two-byte datum. -/
def halfPH3 : State := freshWith fun u => { u with ph3 := ⟨0xAA#8, 0#8, 1⟩, cr := 0x10#7 }

theorem witness_ParasiteShiftWriteByWidthAndOccupancy :
    (fresh.att = true ∧ fresh.ula.cr.getLsbD 4 = false ∧ fresh.ula.ph3.occ = 0) ∧
    (fullHP3.att = true ∧ fullHP3.ula.cr.getLsbD 4 = true ∧ fullHP3.ula.ph3.occ = 0) ∧
    (halfPH3.att = true ∧ halfPH3.ula.cr.getLsbD 4 = true ∧ halfPH3.ula.ph3.occ = 1) ∧
    (fullPH3.att = true ∧ (if fullPH3.ula.cr.getLsbD 4 then 2 else 1) ≤ fullPH3.ula.ph3.occ) := by decide

theorem witness_HresetIsAHardResetWhileAttached : hostPending.att = true ∧ idle.att = false := by decide

/-- No section, a good one, and one without `speed`. -/
theorem witness_LoadcfgInstallsOneConfigurationPerSection :
    (([] : List ConfigSection) = []) ∧
    ([⟨some "A", some "6502", none, none, some 2⟩] ≠ ([] : List ConfigSection) ∧
      ∀ sec ∈ [(⟨some "A", some "6502", none, none, some 2⟩ : ConfigSection)], sec.speed ≠ none) ∧
    (∃ sec ∈ [(⟨some "A", some "6502", none, none, none⟩ : ConfigSection)], sec.speed = none) := by decide

/-- The first and the last usable entry; no index, -1, the length, and an unusable entry. -/
theorem witness_SelectStoresAUsableIndexOrDetaches :
    (fresh.configs[0]? = some cfgA ∧ cfgA.cpu = some cpu6502) ∧
    (fresh.configs[2]? = some cfgC ∧ cfgC.cpu = some cpuZ80) ∧
    ((-1 : Int) < 0) ∧ ((fresh.configs.length : Int) ≤ 3) ∧
    (fresh.configs[(1 : Int).toNat]? = some cfgB ∧ cfgB.cpu = none) := by decide

theorem witness_AttachOfAUsableSelectionSucceeds :
    ({ idle with sel := some 2 }.sel = some 2 ∧ idle.configs[2]? = some cfgC ∧ cfgC.cpu = some cpuZ80 ∧
      ((FsAnswer.noneNeeded = .noneNeeded ∧ (none : Option (List Byte)) = none) ∨
        ∃ bytes, FsAnswer.noneNeeded = .bytes bytes ∧ (none : Option (List Byte)) = some bytes)) ∧
    ({ hostPending with sel := some 0 }.sel = some 0 ∧ hostPending.configs[0]? = some cfgA ∧
      cfgA.cpu = some cpu6502 ∧
      ((FsAnswer.bytes [9#8] = .noneNeeded ∧ some [9#8] = (none : Option (List Byte))) ∨
        ∃ bytes, FsAnswer.bytes [9#8] = .bytes bytes ∧ some [9#8] = some bytes)) :=
  ⟨⟨rfl, rfl, rfl, .inl ⟨rfl, rfl⟩⟩, ⟨rfl, rfl, rfl, .inr ⟨_, rfl, rfl⟩⟩⟩

theorem witness_AttachFailuresLeaveTheBlockDetached :
    idle.sel = none ∧
    (hostPending.sel = some 2 ∧ hostPending.configs[2]? = some cfgC ∧ cfgC.cpu = some cpuZ80) := by decide

/-- An index past the end, and an entry that is unusable. -/
theorem witness_AttachOfAVanishedSelectionDetaches :
    ({ fresh with sel := some 3 }.sel = some 3 ∧ fresh.configs[3]? = none) ∧
    ({ fresh with sel := some 1 }.sel = some 1 ∧ fresh.configs[1]? = some cfgB ∧ cfgB.cpu = none) := by decide

theorem witness_SpeedStoresPresetAndRecomputes : fresh.att = true ∧ idle.att = false := by decide

/-- The block SAVE writes for the fresh state is a current block of a state of the type; attached and detached. -/
theorem witness_LoadOfTheCurrentLayoutReplacesTheState :
    (codec.encode2 4 (Ula.fresh 4)).length = codec.blockLength fresh.params.fifoDepth ∧
    codec.decode2 fresh.params.fifoDepth (codec.encode2 4 (Ula.fresh 4)) = Ula.fresh 4 ∧
    (Ula.fresh 4).WellTyped fresh.params.fifoDepth ∧ fresh.att = true ∧ idle.att = false :=
  ⟨codec_encode2_length 4 _, codec_decode2_encode2 (by decide), by decide, rfl, rfl⟩

theorem witness_LoadOfAnyOtherTagTakesTheLegacyLayout :
    ∃ block u, (7#8 : Byte) ≠ 2#8 ∧ block.length = codec.legacyLength fresh.params.fifoDepth ∧
      (codec.legacyFields fresh.params.fifoDepth block).widen = u ∧ u.WellTyped fresh.params.fifoDepth ∧
      fresh.att = true ∧ idle.att = false := by
  obtain ⟨b, h, w⟩ := codec.legacy_inhabited fresh.params.fifoDepth (by decide)
  exact ⟨b, _, by decide, h, rfl, w, rfl, rfl⟩

/-- A machine with no FIFO at all: no ULA state meets the type constraints. -/
def noFifo : State := { fresh with params := { testParams with fifoDepth := 0 } }

/-- A current block that is too short, a legacy block one byte too long, and blocks of the right length whose fields
cannot be in range. -/
theorem witness_LoadOfABadBlockIsRefused :
    (([] : List Byte).length ≠ codec.blockLength fresh.params.fifoDepth) ∧
    ((7#8 : Byte) ≠ 2#8 ∧
      (List.replicate (codec.legacyLength 4 + 1) 0#8).length ≠ codec.legacyLength fresh.params.fifoDepth) ∧
    (∃ block : List Byte, block.length = codec.blockLength noFifo.params.fifoDepth ∧
      ¬ (codec.decode2 noFifo.params.fifoDepth block).WellTyped noFifo.params.fifoDepth) ∧
    (∃ block : List Byte, block.length = codec.legacyLength noFifo.params.fifoDepth ∧
      ¬ (codec.legacyFields noFifo.params.fifoDepth block).widen.WellTyped noFifo.params.fifoDepth) := by
  refine ⟨?_, ⟨by decide, ?_⟩, ⟨List.replicate _ 0#8, List.length_replicate, ?_⟩,
    ⟨List.replicate _ 0#8, List.length_replicate, ?_⟩⟩
  · have := codec_blockLength_pos fresh.params.fifoDepth
    simp; omega
  · simp [fresh, testParams]
  · rintro ⟨-, h, -⟩
    exact Nat.not_lt_zero _ h
  · rintro ⟨-, h, -⟩
    exact Nat.not_lt_zero _ h

/-- A legal state with three bytes in a FIFO of four, and operations of the third clause. -/
theorem witness_FifoIsABoundedQueue :
    (StateInv threeInFifo ∧ FlagsAgree threeInFifo.params.fifoDepth threeInFifo.ula ∧ threeInFifo.att = true ∧
      fifoContents 4 threeInFifo.ula.ph1 = [1#8, 2#8, 3#8]) ∧
    (StateInv fullFifo ∧ FlagsAgree fullFifo.params.fifoDepth fullFifo.ula ∧ fullFifo.att = true ∧
      fifoContents 4 fullFifo.ula.ph1 = [4#8, 1#8, 2#8, 3#8]) ∧
    (fifoContents 4 fresh.ula.ph1 = []) ∧ (∃ t, exec .hrS1 threeInFifo = .next t) :=
  ⟨by decide, by decide, by decide, ⟨_, rfl⟩⟩

/-- An empty FIFO and as many bytes as it holds. -/
theorem witness_FifoReturnsWhatWasWrittenInOrder :
    StateInv fresh ∧ FlagsAgree fresh.params.fifoDepth fresh.ula ∧ fresh.att = true ∧ fresh.ula.ph1.count = 0 ∧
    [1#8, 2#8, 3#8, (4#8 : Byte)].length ≤ fresh.params.fifoDepth ∧
    [1#8, 2#8, 3#8, (4#8 : Byte)].length = fresh.params.fifoDepth := by decide

theorem witness_ChannelTwoRoundTrip : fresh.att = true := rfl

/-- Two-byte mode with one direction empty and the other full. -/
theorem witness_ChannelThreeTwoByteOrder :
    (fullPH3.att = true ∧ fullPH3.ula.cr.getLsbD 4 = true ∧ fullPH3.ula.hp3.occ = 0) ∧
    (fullHP3.att = true ∧ fullHP3.ula.cr.getLsbD 4 = true ∧ fullHP3.ula.ph3.occ = 0) := by decide

theorem witness_ClearingWidthStrandsAHalfWrittenDatum :
    StateInv (halfWritten 0x18#7) ∧ (halfWritten 0x18#7).att = true ∧
    (halfWritten 0x18#7).ula.cr.getLsbD 4 = true ∧ (halfWritten 0x18#7).ula.hp3.occ = 1 ∧
    (halfWritten 0x18#7).ula.pDA.c3 = false ∧ (halfWritten 0x18#7).ula.hSA.c3 = true := by decide

theorem witness_EnablingOverPendingDataInterruptsAtOnce :
    StateInv hostPendingMasked ∧ hostPendingMasked.att = true ∧ hostPendingMasked.ula.hDA.c4 = true ∧
    hostPendingMasked.ula.cr.getLsbD 0 = false ∧ (0x01#7).getLsbD 0 = true ∧
    ((0x01#7).getLsbD 6 = false ∨ hostPendingMasked.ula.cr.getLsbD 6 = true) := by decide

/-- P set, and P clear. -/
theorem witness_ReleasingHoldResetsExactlyOnce :
    (held.att = true ∧ (0x20#7).getLsbD 5 = true ∧ (0x60#7).getLsbD 5 = true ∧ held.ula.cr.getLsbD 5 = true) ∧
    (fresh.att = true ∧ fresh.ula.cr.getLsbD 5 = false) := by decide

theorem witness_MissingBootRomLeavesTheSessionRunning :
    idle.att = false ∧ idle.configs[0]? = some cfgA ∧ cfgA.cpu = some cpu6502 := by decide

theorem witness_LoadingWhatWasSavedRestoresTheState : StateInv hostPending ∧ StateInv idle := by decide

theorem witness_LegacyLoadSaveReloadIsIdempotent :
    ∃ block t, (7#8 : Byte) ≠ 2#8 ∧ exec (.load 7#8 0#8 block) fresh = .next t := by
  obtain ⟨b, h, w⟩ := codec.legacy_inhabited fresh.params.fifoDepth (by decide)
  obtain ⟨t, e⟩ := finishLoad_of_wellTyped fresh.aux w
  refine ⟨b, t, by decide, ?_⟩
  simp only [exec, execLoad, if_neg (show ¬ (7#8 : Byte) = 2#8 by decide), if_pos h, e]

end Sys2Proof.Tests
end

/-! PROOFS. One step of the block (`00_scope.md` R5, R7): the equations and the inversion of `step`, the shape of the
bus transactions, the parameters after each shared operation and each management event. -/

namespace Sys2Proof.Machine

/-! ## What a step does -/

theorem step_of_input_nil {s : State} (h : s.input = []) : step s = .next s := by
  rw [step, h]

theorem step_of_decode_ok {s : State} {packet : Packet} {rest : List Packet} {i : Instr}
    (h : s.input = packet :: rest) (d : decode packet = .ok i) : step s = exec i { s with input := rest } := by
  simp only [step, h, d]

theorem step_of_decode_error {s : State} {packet : Packet} {rest : List Packet} {e : DecodeError}
    (h : s.input = packet :: rest) (d : decode packet = .error e) : step s = .refused (.undecodable e) := by
  simp only [step, h, d]

/-- A step that completes was idle, or performed the operation of the head packet. -/
theorem step_next_cases {s t : State} (h : step s = .next t) :
    (s.input = [] ∧ t = s) ∨
    ∃ packet rest i, s.input = packet :: rest ∧ decode packet = .ok i ∧ exec i { s with input := rest } = .next t := by
  rcases hin : s.input with _ | ⟨packet, rest⟩
  · rw [step_of_input_nil hin] at h
    cases h
    exact .inl ⟨rfl, rfl⟩
  · rcases hd : decode packet with e | i
    · rw [step_of_decode_error hin hd] at h
      cases h
    · rw [step_of_decode_ok hin hd] at h
      exact .inr ⟨packet, rest, i, rfl, hd, h⟩

/-! ## The shape of the bus transactions -/

theorem busRead_sameSession (r : Byte × Ula) (s : State) : SameSession s (busRead r s) := by
  cases h : s.att <;> simp [SameSession, busRead_of_att, busRead_of_detached, h]

theorem busWrite_sameSession (u : Ula) (s : State) : SameSession s (busWrite u s) := by
  cases h : s.att <;> simp [SameSession, busWrite_of_att, busWrite_of_detached, h]

/-- Every bus read is the common read frame around what its register gives (R110, R150). -/
theorem exec_of_performer_read {i : Instr} {side : Side} {a : Selector} (h : performerOf i = .bus side .read a)
    (s : State) : ∃ r, exec i s = .next (busRead r s) := by
  cases i <;> cases h <;> exact ⟨_, rfl⟩

/-- Every bus write is the common write frame around what its register takes (R110, R150); only `HW.CTL.CLR` adds an
event to it, the coprocessor's reset (R121). -/
theorem exec_of_performer_write {i : Instr} {side : Side} {a : Selector} (h : performerOf i = .bus side .write a)
    (s : State) :
    ∃ u, exec i s = .next (busWrite u s) ∨
      (∃ m, i = .hwCtlClr m) ∧ exec i s = .next ((busWrite u s).emit (.cpuReset s.cpu)) := by
  cases i with
  | hwCtlClr m =>
    refine ⟨clearControl m (loadHfl (controlByte false m) s.ula), ?_⟩
    simp only [exec, execHwCtlClr]
    split
    · exact .inr ⟨⟨m, rfl⟩, rfl⟩
    · exact .inl rfl
  | _ => cases h <;> exact ⟨_, .inl rfl⟩

/-- A bus transaction changes nothing beyond the ULA state, the returned value and the events, attached or not. -/
theorem exec_bus_sameSession {i : Instr} {side : Side} {direction : Direction} {a : Selector} {s t : State}
    (h : performerOf i = .bus side direction a) (e : exec i s = .next t) : SameSession s t := by
  cases direction with
  | read =>
    obtain ⟨r, er⟩ := exec_of_performer_read h s
    obtain rfl := Host.Outcome.next.inj (er.symm.trans e)
    exact busRead_sameSession r s
  | write =>
    obtain ⟨u, eu | ⟨-, eu⟩⟩ := exec_of_performer_write h s
    all_goals
      obtain rfl := Host.Outcome.next.inj (eu.symm.trans e)
      exact busWrite_sameSession u s

/-! ## The parameters after the shared operations -/

@[simp] theorem updateInts_params (s : State) : (updateInts s).params = s.params :=
  (updateInts_frame s).1

@[simp] theorem hardReset_params (s : State) : (hardReset s).params = s.params := by
  simp [hardReset]

@[simp] theorem detachIfAttached_params (s : State) : (detachIfAttached s).params = s.params := by
  unfold detachIfAttached
  split
  · exact detach_params s
  · rfl

/-- On every path of ATTACH (R195). -/
@[simp] theorem attachSelected_params (fs : FsAnswer) (ok : Bool) (s : State) :
    (attachSelected fs ok s).params = s.params := by
  obtain ⟨-, e⟩ | ⟨cfg, cpu, -, ⟨-, e⟩ | ⟨-, -, e⟩ | ⟨-, -, e⟩⟩ := attachSelected_cases fs ok s <;> simp [e]

theorem finishLoad_params {u : Ula} {aux : Bool} {s t : State} (h : finishLoad u aux s = .next t) :
    t.params = s.params := by
  obtain ⟨-, ⟨-, rfl⟩ | ⟨-, rfl⟩⟩ := finishLoad_next h <;> rfl

/-! ## The parameters after every operation -/

theorem execHreset_params {s t : State} (e : execHreset s = .next t) : t.params = s.params := by
  obtain rfl := Host.Outcome.next.inj e
  cases h : s.att <;> simp

theorem execLoadcfg_params {source : List ConfigSection} {s t : State} (e : execLoadcfg source s = .next t) :
    t.params = s.params := by
  unfold execLoadcfg at e
  split at e
  · obtain rfl := Host.Outcome.next.inj e
    rfl
  · cases e

theorem execSelect_params {index : Option Int} {s t : State} (e : execSelect index s = .next t) :
    t.params = s.params := by
  obtain rfl := Host.Outcome.next.inj e
  split <;> simp

theorem execLoad_params {tag aux : Byte} {block : List Byte} {s t : State}
    (e : execLoad tag aux block s = .next t) : t.params = s.params := by
  unfold execLoad at e
  split at e <;> split at e
  · exact finishLoad_params e
  · cases e
  · exact finishLoad_params e
  · cases e

theorem exec_environment_params {i : Instr} {s t : State} (h : performerOf i = .environment)
    (e : exec i s = .next t) : t.params = s.params := by
  cases i with
  | hreset => exact execHreset_params e
  | loadcfg source => exact execLoadcfg_params e
  | findcpu name =>
    obtain rfl := Host.Outcome.next.inj e
    rfl
  | select index => exact execSelect_params e
  | attach fs ok =>
    obtain rfl := Host.Outcome.next.inj e
    exact attachSelected_params fs ok s
  | speed preset =>
    obtain rfl := Host.Outcome.next.inj e
    rfl
  | save =>
    obtain rfl := Host.Outcome.next.inj e
    rfl
  | load tag aux block => exact execLoad_params e
  | _ => cases h

/-- No operation writes a parameter (R7). -/
theorem exec_params {i : Instr} {s t : State} (e : exec i s = .next t) : t.params = s.params := by
  cases h : performerOf i with
  | bus side direction a => exact (exec_bus_sameSession h e).1
  | environment => exact exec_environment_params h e

/-! ## The statements -/

/-- Settles O8, by the three equations of `step`. -/
theorem stepPerformsTheNextPresentedOperation : Obligations.StepPerformsTheNextPresentedOperation :=
  fun _ => ⟨fun _ _ _ => step_of_decode_ok, fun _ _ _ => step_of_decode_error, step_of_input_nil⟩

/-- Settles O13: an idle step keeps the whole state, any other is an operation, and taking its packet from the input
touches no parameter. -/
theorem stepKeepsParameters : Obligations.StepKeepsParameters := by
  intro s t h
  obtain ⟨-, rfl⟩ | ⟨packet, rest, i, -, -, e⟩ := step_next_cases h
  · rfl
  · exact (exec_params e :)

end Sys2Proof.Machine

/-! PROOFS. The register state after every operation (`10_state.md`): the two invariants of the state, the operations
that reach CR, the channel-1 FIFO as a bounded queue, and channel 3 in two-byte mode as a queue of two. -/

namespace Sys2Proof.Machine

/-! ## What an operation can do to the registers -/

/-- The ULA state an attached bus transaction leaves before the lines are recomputed (R110, R150); `exec_read_eq` and
`exec_write_ula` tie it to `exec`. -/
def accessUla (n : Nat) (i : Instr) (u : Ula) : Ula :=
  match i with
  | .hrD1 => (takeFifo n u).2
  | .hrD2 => (readPH2 u).2
  | .hrD3 => (takePH3 u).2
  | .hrD4 => (readPH4 u).2
  | .hwCtlSet m => setControl n m (loadHfl (controlByte true m) u)
  | .hwCtlClr m => clearControl m (loadHfl (controlByte false m) u)
  | .hwD1 v => storeHP1 v (loadHfl v u)
  | .hwD2 v => storeHP2 v (loadHfl v u)
  | .hwD3 v => putHP3 v (loadHfl v u)
  | .hwD4 v => storeHP4 v (loadHfl v u)
  | .hwS2 v | .hwS3 v | .hwS4 v => loadHfl v u
  | .prD1 => (readHP1 u).2
  | .prD2 => (readHP2 u).2
  | .prD3 => (takeHP3 u).2
  | .prD4 => (readHP4 u).2
  | .pwD1 v => putFifo n v (loadPfl v u)
  | .pwD2 v => storePH2 v (loadPfl v u)
  | .pwD3 v => putPH3 v (loadPfl v u)
  | .pwD4 v => storePH4 v (loadPfl v u)
  | .pwS1 v | .pwS2 v | .pwS3 v | .pwS4 v => loadPfl v u
  | _ => u

theorem exec_read_eq {i : Instr} {side : Side} {a : Selector} (h : performerOf i = .bus side .read a) (s : State) :
    ∃ b, exec i s = .next (busRead (b, accessUla s.params.fifoDepth i s.ula) s) := by
  cases i <;> cases h <;> exact ⟨_, rfl⟩

theorem exec_write_ula {i : Instr} {side : Side} {a : Selector} {s t : State} (h : performerOf i = .bus side .write a)
    (e : exec i s = .next t) : t.ula = (busWrite (accessUla s.params.fifoDepth i s.ula) s).ula := by
  cases i with
  | hwCtlClr m =>
    obtain rfl := Host.Outcome.next.inj e
    split <;> rfl
  | _ =>
    cases h <;>
    · obtain rfl := Host.Outcome.next.inj e
      rfl

/-- What the ULA state of `t` can be after operation `i` completed in `s`. -/
inductive RegisterChange (i : Instr) (s t : State) : Prop
  /-- No register changed, nor whether a coprocessor is attached. -/
  | kept (hu : t.ula = s.ula) (ha : t.att = s.att)
  /-- The coprocessor was detached and the lines dropped (R197). -/
  | detached (hu : t.ula = linesLow s.ula) (ha : t.att = false)
  /-- A bus transaction of an attached block (R110, R150). -/
  | accessed (hu : t.ula = withDerivedLines (accessUla s.params.fifoDepth i s.ula))
  /-- A hard reset (R282). -/
  | reset (hi : i = .hreset ∨ ∃ fs ok, i = .attach fs ok) (hu : t.ula = Ula.fresh s.params.fifoDepth)
  /-- The state of a block was loaded (R222). -/
  | loaded (u : Ula) (hi : ∃ tag aux block, i = .load tag aux block) (hw : u.WellTyped s.params.fifoDepth)
      (hu : t.ula = if s.att then withDerivedLines u else u) (ha : t.att = s.att)

theorem busRead_ula (r : Byte × Ula) (s : State) :
    (busRead r s).ula = if s.att then withDerivedLines r.2 else s.ula := by
  cases h : s.att <;> simp [busRead_of_att, busRead_of_detached, h]

theorem busWrite_ula (u : Ula) (s : State) :
    (busWrite u s).ula = if s.att then withDerivedLines u else s.ula := by
  cases h : s.att <;> simp [busWrite_of_att, busWrite_of_detached, h]

theorem exec_bus_ula {i : Instr} {side : Side} {direction : Direction} {a : Selector} {s t : State}
    (h : performerOf i = .bus side direction a) (e : exec i s = .next t) :
    t.ula = if s.att then withDerivedLines (accessUla s.params.fifoDepth i s.ula) else s.ula := by
  cases direction with
  | read =>
    obtain ⟨b, eb⟩ := exec_read_eq h s
    obtain rfl := Host.Outcome.next.inj (eb.symm.trans e)
    exact busRead_ula _ s
  | write => exact (exec_write_ula h e).trans (busWrite_ula _ s)

theorem exec_bus_registerChange {i : Instr} {side : Side} {direction : Direction} {a : Selector} {s t : State}
    (h : performerOf i = .bus side direction a) (e : exec i s = .next t) : RegisterChange i s t := by
  have hu := exec_bus_ula h e
  obtain ⟨-, hatt, -⟩ := exec_bus_sameSession h e
  cases ha : s.att with
  | true => exact .accessed (by simpa [ha] using hu)
  | false => exact .kept (by simpa [ha] using hu) hatt

theorem RegisterChange.of_detachIfAttached {i : Instr} {s t : State} (hu : t.ula = (detachIfAttached s).ula)
    (ha : t.att = (detachIfAttached s).att) : RegisterChange i s t := by
  cases h : s.att with
  | true => exact .detached (by simpa [detachIfAttached, h] using hu) (by simpa [detachIfAttached, h] using ha)
  | false => exact .kept (by simpa [detachIfAttached, h] using hu) (by simpa [detachIfAttached, h] using ha)

theorem finishLoad_registerChange {i : Instr} {u : Ula} {aux : Bool} {s t : State}
    (hi : ∃ tag aux block, i = .load tag aux block) (e : finishLoad u aux s = .next t) : RegisterChange i s t := by
  obtain ⟨hw, ⟨ha, rfl⟩ | ⟨ha, rfl⟩⟩ := finishLoad_next e
  · exact .loaded u hi hw (by simp [ha]) rfl
  · exact .loaded u hi hw (by simp [ha]) rfl

theorem execHreset_registerChange {s t : State} (e : execHreset s = .next t) : RegisterChange .hreset s t := by
  obtain rfl := Host.Outcome.next.inj e
  cases ha : s.att with
  | true => exact .reset (.inl rfl) (by simp [hardReset_of_att ha])
  | false => exact .kept (by simp) (by simp [ha])

theorem execSelect_registerChange {index : Option Int} {s t : State} (e : execSelect index s = .next t) :
    RegisterChange (.select index) s t := by
  obtain rfl := Host.Outcome.next.inj e
  split
  · exact .kept rfl rfl
  · exact .detached rfl rfl

theorem execAttach_registerChange {fs : FsAnswer} {ok : Bool} {s t : State} (e : execAttach fs ok s = .next t) :
    RegisterChange (.attach fs ok) s t := by
  obtain rfl := Host.Outcome.next.inj e
  obtain ⟨-, e⟩ | ⟨cfg, cpu, -, ⟨-, e⟩ | ⟨-, -, e⟩ | ⟨-, -, e⟩⟩ := attachSelected_cases fs ok s
  · exact .of_detachIfAttached (by rw [e]; rfl) (by rw [e]; rfl)
  · exact .of_detachIfAttached (by rw [e]; rfl) (by rw [e]; rfl)
  · exact .of_detachIfAttached (by rw [e]; rfl) (by rw [e]; rfl)
  · exact .reset (.inr ⟨fs, ok, rfl⟩) (by simp [e, hardReset_withAttached])

theorem execLoadcfg_registerChange {source : List ConfigSection} {s t : State} (e : execLoadcfg source s = .next t) :
    RegisterChange (.loadcfg source) s t := by
  unfold execLoadcfg at e
  split at e
  · obtain rfl := Host.Outcome.next.inj e
    exact .kept rfl rfl
  · cases e

theorem execLoad_registerChange {tag aux : Byte} {block : List Byte} {s t : State}
    (e : execLoad tag aux block s = .next t) : RegisterChange (.load tag aux block) s t := by
  unfold execLoad at e
  split at e <;> split at e
  · exact finishLoad_registerChange ⟨tag, aux, block, rfl⟩ e
  · cases e
  · exact finishLoad_registerChange ⟨tag, aux, block, rfl⟩ e
  · cases e

theorem exec_environment_registerChange {i : Instr} {s t : State} (h : performerOf i = .environment)
    (e : exec i s = .next t) : RegisterChange i s t := by
  cases i with
  | hreset => exact execHreset_registerChange e
  | loadcfg source => exact execLoadcfg_registerChange e
  | findcpu name =>
    obtain rfl := Host.Outcome.next.inj e
    exact .kept rfl rfl
  | select index => exact execSelect_registerChange e
  | attach fs ok => exact execAttach_registerChange e
  | speed preset =>
    obtain rfl := Host.Outcome.next.inj e
    exact .kept rfl rfl
  | save =>
    obtain rfl := Host.Outcome.next.inj e
    exact .kept rfl rfl
  | load tag aux block => exact execLoad_registerChange e
  | _ => cases h

/-- Every operation changes the registers in one of the ways of `RegisterChange`. -/
theorem exec_registerChange {i : Instr} {s t : State} (e : exec i s = .next t) : RegisterChange i s t := by
  cases h : performerOf i with
  | bus side direction a => exact exec_bus_registerChange h e
  | environment => exact exec_environment_registerChange h e

/-! ## The invariant of the state -/

theorem linesCurrent_withDerivedLines (u : Ula) : LinesCurrent (withDerivedLines u) := ⟨rfl, rfl, rfl⟩

theorem linesCurrent_fresh (n : Nat) : LinesCurrent (Ula.fresh n) := by
  simp [LinesCurrent, Ula.fresh]

/-- Only the FIFO, the shift buffers and the soft reset reach what the type constraints speak of. -/
theorem accessUla_wellTyped {n : Nat} {u : Ula} (i : Instr) (hn : 1 ≤ n) (h : u.WellTyped n) :
    (accessUla n i u).WellTyped n := by
  cases i with
  | hrD1 => exact takeFifo_wellTyped h
  | hrD3 => exact takePH3_wellTyped h
  | hwCtlSet m => exact setControl_wellTyped m hn h
  | hwD3 v => exact putHP3_wellTyped v h
  | prD3 => exact takeHP3_wellTyped h
  | pwD1 v => exact putFifo_wellTyped v h
  | pwD3 v => exact putPH3_wellTyped v h
  | _ => exact h

theorem RegisterChange.wellTyped {i : Instr} {s t : State} (c : RegisterChange i s t)
    (hn : 1 ≤ s.params.fifoDepth) (h : s.ula.WellTyped s.params.fifoDepth) :
    t.ula.WellTyped s.params.fifoDepth := by
  cases c with
  | kept hu => rwa [hu]
  | detached hu => rw [hu]; exact linesLow_wellTyped h
  | accessed hu => rw [hu]; exact withDerivedLines_wellTyped (accessUla_wellTyped i hn h)
  | reset _ hu => rw [hu]; exact fresh_wellTyped hn
  | loaded u _ hw hu =>
    rw [hu]
    split
    · exact withDerivedLines_wellTyped hw
    · exact hw

theorem RegisterChange.linesCurrent {i : Instr} {s t : State} (c : RegisterChange i s t)
    (h : s.att = true → LinesCurrent s.ula) (ht : t.att = true) : LinesCurrent t.ula := by
  cases c with
  | kept hu ha => rw [hu]; exact h (ha ▸ ht)
  | detached _ ha => cases ha.symm.trans ht
  | accessed hu => rw [hu]; exact linesCurrent_withDerivedLines _
  | reset _ hu => rw [hu]; exact linesCurrent_fresh _
  | loaded u _ _ hu ha =>
    rw [hu, if_pos (ha ▸ ht)]
    exact linesCurrent_withDerivedLines u

theorem exec_stateInv {i : Instr} {s t : State} (h : StateInv s) (e : exec i s = .next t) : StateInv t := by
  obtain ⟨hn, hw, hl⟩ := h
  have c := exec_registerChange e
  rw [StateInv, exec_params e]
  exact ⟨hn, c.wellTyped hn hw, c.linesCurrent hl⟩

/-! ## The flags and the buffers -/

section FlagsAgree
variable {n : Nat} {u : Ula}

theorem clearChannels_flagsAgree (hn : 1 ≤ n) : FlagsAgree n (clearChannels n u) := by
  simp [FlagsAgree]; omega

theorem fresh_flagsAgree (hn : 1 ≤ n) : FlagsAgree n (Ula.fresh n) :=
  clearChannels_flagsAgree (u := Ula.fresh n) hn

theorem readPH2_flagsAgree (h : FlagsAgree n u) : FlagsAgree n (readPH2 u).2 := by
  obtain ⟨h1, h2, h3, h4, -, h6, h7⟩ := h
  exact ⟨h1, h2, h3, h4, rfl, h6, h7⟩

theorem readPH4_flagsAgree (h : FlagsAgree n u) : FlagsAgree n (readPH4 u).2 := by
  obtain ⟨h1, h2, h3, h4, h5, h6, -, h8⟩ := h
  exact ⟨h1, h2, h3, h4, h5, h6, rfl, h8⟩

theorem readHP1_flagsAgree (h : FlagsAgree n u) : FlagsAgree n (readHP1 u).2 := by
  obtain ⟨h1, h2, h3, -, h5⟩ := h
  exact ⟨h1, h2, h3, rfl, h5⟩

theorem readHP2_flagsAgree (h : FlagsAgree n u) : FlagsAgree n (readHP2 u).2 := by
  obtain ⟨h1, h2, h3, h4, h5, -, h7⟩ := h
  exact ⟨h1, h2, h3, h4, h5, rfl, h7⟩

theorem readHP4_flagsAgree (h : FlagsAgree n u) : FlagsAgree n (readHP4 u).2 := by
  obtain ⟨h1, h2, h3, h4, h5, h6, h7, -, h9⟩ := h
  exact ⟨h1, h2, h3, h4, h5, h6, h7, rfl, h9⟩

theorem storePH2_flagsAgree (v : Byte) (h : FlagsAgree n u) : FlagsAgree n (storePH2 v u) := by
  obtain ⟨h1, h2, h3, h4, -, h6, h7⟩ := h
  exact ⟨h1, h2, h3, h4, rfl, h6, h7⟩

theorem storePH4_flagsAgree (v : Byte) (h : FlagsAgree n u) : FlagsAgree n (storePH4 v u) := by
  obtain ⟨h1, h2, h3, h4, h5, h6, -, h8⟩ := h
  exact ⟨h1, h2, h3, h4, h5, h6, rfl, h8⟩

theorem storeHP1_flagsAgree (v : Byte) (h : FlagsAgree n u) : FlagsAgree n (storeHP1 v u) := by
  obtain ⟨h1, h2, h3, -, h5⟩ := h
  exact ⟨h1, h2, h3, rfl, h5⟩

theorem storeHP2_flagsAgree (v : Byte) (h : FlagsAgree n u) : FlagsAgree n (storeHP2 v u) := by
  obtain ⟨h1, h2, h3, h4, h5, -, h7⟩ := h
  exact ⟨h1, h2, h3, h4, h5, rfl, h7⟩

theorem storeHP4_flagsAgree (v : Byte) (h : FlagsAgree n u) : FlagsAgree n (storeHP4 v u) := by
  obtain ⟨h1, h2, h3, h4, h5, h6, h7, -, h9⟩ := h
  exact ⟨h1, h2, h3, h4, h5, h6, h7, rfl, h9⟩

/-- A pop moves the head on and the count back, so the tail stays where R23 puts it. -/
theorem takeFifo_flagsAgree (hc : u.ph1.count ≤ n) (h : FlagsAgree n u) : FlagsAgree n (takeFifo n u).2 := by
  unfold takeFifo
  split
  next hpos =>
    obtain ⟨htail, hda, -, hrest⟩ := h
    refine ⟨?_, ?_, ?_, ?_⟩
    · simp only [fifoPop, htail, Nat.mod_add_mod]
      congr 1
      omega
    · dsimp only [fifoPop]
      split <;> simp [hda] <;> omega
    · simp [fifoPop]
      omega
    · split <;> exact hrest
  next => exact h

theorem putFifo_flagsAgree (v : Byte) (h : FlagsAgree n u) : FlagsAgree n (putFifo n v u) := by
  unfold putFifo
  split
  next hroom =>
    obtain ⟨htail, -, hsa, hrest⟩ := h
    refine ⟨?_, ?_, ?_, ?_⟩
    · simp only [fifoPush, htail, Nat.mod_add_mod, Nat.add_assoc]
    · simp [fifoPush]
    · dsimp only [fifoPush]
      split <;> simp [hsa] <;> omega
    · split <;> exact hrest
  next => exact h

theorem takePH3_flagsAgree (h : FlagsAgree n u) : FlagsAgree n (takePH3 u).2 := by
  unfold takePH3
  split
  next =>
    obtain ⟨h1, h2, h3, h4, h5, h6, h7, h8, -, h10⟩ := h
    split
    next => exact ⟨h1, h2, h3, h4, h5, h6, h7, h8, fun _ => rfl, h10⟩
    next hleft => exact ⟨h1, h2, h3, h4, h5, h6, h7, h8, fun h0 => absurd h0 hleft, h10⟩
  next => exact h

theorem takeHP3_flagsAgree (h : FlagsAgree n u) : FlagsAgree n (takeHP3 u).2 := by
  unfold takeHP3
  split
  next =>
    obtain ⟨h1, h2, h3, h4, h5, h6, h7, h8, h9, -⟩ := h
    split
    next => exact ⟨h1, h2, h3, h4, h5, h6, h7, h8, h9, fun _ => rfl⟩
    next hleft => exact ⟨h1, h2, h3, h4, h5, h6, h7, h8, h9, fun h0 => absurd h0 hleft⟩
  next => exact h

theorem shiftAppend_occ_ne_zero (v : Byte) (b : ShiftBuffer) : (shiftAppend v b).occ ≠ 0 := by
  simp

theorem putPH3_flagsAgree (v : Byte) (h : FlagsAgree n u) : FlagsAgree n (putPH3 v u) := by
  unfold putPH3
  split
  next =>
    obtain ⟨h1, h2, h3, h4, h5, h6, h7, h8, -, h10⟩ := h
    split <;> exact ⟨h1, h2, h3, h4, h5, h6, h7, h8, fun h0 => absurd h0 (shiftAppend_occ_ne_zero v _), h10⟩
  next => exact h

theorem putHP3_flagsAgree (v : Byte) (h : FlagsAgree n u) : FlagsAgree n (putHP3 v u) := by
  unfold putHP3
  split
  next =>
    obtain ⟨h1, h2, h3, h4, h5, h6, h7, h8, h9, -⟩ := h
    split <;> exact ⟨h1, h2, h3, h4, h5, h6, h7, h8, h9, fun h0 => absurd h0 (shiftAppend_occ_ne_zero v _)⟩
  next => exact h

theorem setControl_flagsAgree (m : ControlBits) (hn : 1 ≤ n) (h : FlagsAgree n u) :
    FlagsAgree n (setControl n m u) := by
  obtain ⟨-, -, e⟩ | ⟨-, e⟩ := setControl_cases n m u
  · rw [e]; exact clearChannels_flagsAgree hn
  · rw [e]; exact h

/-- The status reads and the ignored writes touch neither a flag nor a buffer. -/
theorem accessUla_flagsAgree (i : Instr) (hn : 1 ≤ n) (hw : u.WellTyped n) (h : FlagsAgree n u) :
    FlagsAgree n (accessUla n i u) := by
  obtain ⟨-, -, -, hc, -⟩ := hw
  cases i with
  | hrD1 => exact takeFifo_flagsAgree hc h
  | hrD2 => exact readPH2_flagsAgree h
  | hrD3 => exact takePH3_flagsAgree h
  | hrD4 => exact readPH4_flagsAgree h
  | hwCtlSet m => exact setControl_flagsAgree m hn h
  | hwD1 v => exact storeHP1_flagsAgree v h
  | hwD2 v => exact storeHP2_flagsAgree v h
  | hwD3 v => exact putHP3_flagsAgree v h
  | hwD4 v => exact storeHP4_flagsAgree v h
  | prD1 => exact readHP1_flagsAgree h
  | prD2 => exact readHP2_flagsAgree h
  | prD3 => exact takeHP3_flagsAgree h
  | prD4 => exact readHP4_flagsAgree h
  | pwD1 v => exact putFifo_flagsAgree v h
  | pwD2 v => exact storePH2_flagsAgree v h
  | pwD3 v => exact putPH3_flagsAgree v h
  | pwD4 v => exact storePH4_flagsAgree v h
  | _ => exact h

end FlagsAgree

theorem exec_flagsAgree {i : Instr} {s t : State} (hs : StateInv s) (h : FlagsAgree s.params.fifoDepth s.ula)
    (hi : ∀ tag aux block, i ≠ .load tag aux block) (e : exec i s = .next t) :
    FlagsAgree t.params.fifoDepth t.ula := by
  obtain ⟨hn, hw, -⟩ := hs
  rw [exec_params e]
  cases exec_registerChange e with
  | kept hu => rwa [hu]
  | detached hu => rw [hu]; exact h
  | accessed hu => rw [hu]; exact accessUla_flagsAgree i hn hw h
  | reset _ hu => rw [hu]; exact fresh_flagsAgree hn
  | loaded _ hl =>
    obtain ⟨tag, aux, block, hl⟩ := hl
    exact absurd hl (hi tag aux block)

/-! ## What reaches CR and the FIFO -/

section Frame
variable (n : Nat) (v : Byte) (u : Ula)

@[simp] theorem takeFifo_cr : (takeFifo n u).2.cr = u.cr := by unfold takeFifo; split <;> rfl
@[simp] theorem putFifo_cr : (putFifo n v u).cr = u.cr := by unfold putFifo; split <;> rfl
@[simp] theorem takePH3_cr : (takePH3 u).2.cr = u.cr := by unfold takePH3; split <;> rfl
@[simp] theorem takePH3_ph1 : (takePH3 u).2.ph1 = u.ph1 := by unfold takePH3; split <;> rfl
@[simp] theorem takeHP3_cr : (takeHP3 u).2.cr = u.cr := by unfold takeHP3; split <;> rfl
@[simp] theorem takeHP3_ph1 : (takeHP3 u).2.ph1 = u.ph1 := by unfold takeHP3; split <;> rfl
@[simp] theorem putPH3_cr : (putPH3 v u).cr = u.cr := by unfold putPH3; split <;> [split <;> rfl; rfl]
@[simp] theorem putPH3_ph1 : (putPH3 v u).ph1 = u.ph1 := by unfold putPH3; split <;> [split <;> rfl; rfl]
@[simp] theorem putHP3_cr : (putHP3 v u).cr = u.cr := by unfold putHP3; split <;> [split <;> rfl; rfl]
@[simp] theorem putHP3_ph1 : (putHP3 v u).ph1 = u.ph1 := by unfold putHP3; split <;> [split <;> rfl; rfl]

end Frame

theorem accessUla_cr {i : Instr} (n : Nat) (u : Ula) (hset : ∀ m, i ≠ .hwCtlSet m) (hclr : ∀ m, i ≠ .hwCtlClr m) :
    (accessUla n i u).cr = u.cr := by
  cases i with
  | hwCtlSet m => exact absurd rfl (hset m)
  | hwCtlClr m => exact absurd rfl (hclr m)
  | hrD1 => exact takeFifo_cr n u
  | hrD3 => exact takePH3_cr u
  | hwD3 v => exact putHP3_cr v _
  | prD3 => exact takeHP3_cr u
  | pwD1 v => exact putFifo_cr n v _
  | pwD3 v => exact putPH3_cr v _
  | _ => rfl

theorem accessUla_ph1 {i : Instr} (n : Nat) (u : Ula) (hpop : i ≠ .hrD1) (hpush : ∀ v, i ≠ .pwD1 v)
    (hset : ∀ m, i ≠ .hwCtlSet m) : (accessUla n i u).ph1 = u.ph1 := by
  cases i with
  | hrD1 => exact absurd rfl hpop
  | pwD1 v => exact absurd rfl (hpush v)
  | hwCtlSet m => exact absurd rfl (hset m)
  | hrD3 => exact takePH3_ph1 u
  | hwD3 v => exact putHP3_ph1 v _
  | prD3 => exact takeHP3_ph1 u
  | pwD3 v => exact putPH3_ph1 v _
  | _ => rfl

theorem exec_ph1 {i : Instr} {s t : State} (e : exec i s = .next t) (hpop : i ≠ .hrD1) (hpush : ∀ v, i ≠ .pwD1 v)
    (hset : ∀ m, i ≠ .hwCtlSet m) (hreset : i ≠ .hreset) (hattach : ∀ fs ok, i ≠ .attach fs ok)
    (hload : ∀ tag aux block, i ≠ .load tag aux block) : t.ula.ph1 = s.ula.ph1 := by
  cases exec_registerChange e with
  | kept hu => rw [hu]
  | detached hu => rw [hu]; rfl
  | accessed hu => rw [hu]; exact accessUla_ph1 _ _ hpop hpush hset
  | reset hi =>
    obtain hi | ⟨fs, ok, hi⟩ := hi
    · exact absurd hi hreset
    · exact absurd hi (hattach fs ok)
  | loaded _ hi =>
    obtain ⟨tag, aux, block, hi⟩ := hi
    exact absurd hi (hload tag aux block)

/-! ## The FIFO as a queue -/

theorem fifoContents_length (n : Nat) (f : Fifo) : (fifoContents n f).length = f.count := by
  simp [fifoContents]

theorem fifoContents_of_count_zero {n : Nat} {f : Fifo} (h : f.count = 0) : fifoContents n f = [] := by
  simp [fifoContents, h]

/-- Fewer than `n` places apart, two slots of the ring are different. -/
theorem ring_slot_ne {n head k count : Nat} (hk : k < count) (hc : count < n) :
    (head + count) % n ≠ (head + k) % n := by
  intro h
  have := (Nat.ModEq.add_left_cancel' head h).eq_of_lt_of_lt hc (hk.trans hc)
  omega

/-- A push stores its byte in the slot after the last unread one, and no unread byte is in that slot. -/
theorem fifoContents_push {n : Nat} {f : Fifo} (v : Byte) (hb : f.bytes.length = n)
    (ht : f.tail = (f.head + f.count) % n) (hc : f.count < n) :
    fifoContents n (fifoPush n v f) = fifoContents n f ++ [v] := by
  have hlast : (f.bytes.set f.tail v).getD ((f.head + f.count) % n) 0#8 = v := by
    have : f.tail < f.bytes.length := by rw [ht, hb]; exact Nat.mod_lt _ (by omega)
    simp [← ht, this]
  have hunread : ∀ k < f.count,
      (f.bytes.set f.tail v).getD ((f.head + k) % n) 0#8 = f.bytes.getD ((f.head + k) % n) 0#8 := by
    intro k hk
    have hne : f.tail ≠ (f.head + k) % n := ht ▸ ring_slot_ne hk hc
    simp [hne]
  simp only [fifoContents, fifoPush, List.range_succ, List.map_append, List.map_cons, List.map_nil, hlast]
  congr 1
  exact List.map_congr_left fun k hk => hunread k (List.mem_range.mp hk)

theorem fifoContents_of_count_pos {n : Nat} {f : Fifo} (hh : f.head < n) (hc : 0 < f.count) :
    fifoContents n f = fifoFront f :: fifoContents n (fifoPop n f) := by
  obtain ⟨c, hc⟩ : ∃ c, f.count = c + 1 := ⟨f.count - 1, by omega⟩
  simp [fifoContents, fifoFront, fifoPop, hc, List.range_succ_eq_map, Nat.mod_eq_of_lt hh, Function.comp_def,
    Nat.add_assoc, Nat.add_comm 1]

theorem putFifo_ph1 (n : Nat) (v : Byte) (u : Ula) :
    (putFifo n v u).ph1 = if u.ph1.count < n then fifoPush n v u.ph1 else u.ph1 := by
  unfold putFifo; split <;> rfl

theorem takeFifo_of_count_pos {n : Nat} {u : Ula} (h : 0 < u.ph1.count) :
    (takeFifo n u).1 = fifoFront u.ph1 ∧ (takeFifo n u).2.ph1 = fifoPop n u.ph1 := by
  simp [takeFifo, h]

theorem takeFifo_of_count_zero {n : Nat} {u : Ula} (h : u.ph1.count = 0) : takeFifo n u = (u.hfl, u) := by
  simp [takeFifo, h]

/-- An attached `PW.D1` appends to the queue while it is shorter than `N` (R24, R161). -/
theorem exec_pwD1_contents {s : State} (v : Byte) (hw : s.ula.WellTyped s.params.fifoDepth)
    (hf : FlagsAgree s.params.fifoDepth s.ula) (ha : s.att = true) :
    ∃ t, exec (.pwD1 v) s = .next t ∧
      fifoContents t.params.fifoDepth t.ula.ph1 =
        if (fifoContents s.params.fifoDepth s.ula.ph1).length < s.params.fifoDepth then
          fifoContents s.params.fifoDepth s.ula.ph1 ++ [v]
        else fifoContents s.params.fifoDepth s.ula.ph1 := by
  obtain ⟨hbytes, -⟩ := hw
  obtain ⟨htail, -⟩ := hf
  refine ⟨_, rfl, ?_⟩
  rw [busWrite_of_att _ ha, fifoContents_length]
  simp only [withDerivedLines_ph1, putFifo_ph1, loadPfl_ph1]
  by_cases hroom : s.ula.ph1.count < s.params.fifoDepth
  · simp [hroom, fifoContents_push v hbytes htail hroom]
  · simp [hroom]

/-- An attached `HR.D1` gives the oldest byte of the queue and removes it, or falls back on HFL (R24, R112). -/
theorem exec_hrD1_contents {s : State} (hw : s.ula.WellTyped s.params.fifoDepth) (ha : s.att = true) :
    ∃ t, exec .hrD1 s = .next t ∧
      (∀ v rest, fifoContents s.params.fifoDepth s.ula.ph1 = v :: rest →
        t.result = .byte v ∧ fifoContents t.params.fifoDepth t.ula.ph1 = rest) ∧
      (fifoContents s.params.fifoDepth s.ula.ph1 = [] →
        t.result = .byte s.ula.hfl ∧ fifoContents t.params.fifoDepth t.ula.ph1 = []) := by
  obtain ⟨-, hhead, -⟩ := hw
  refine ⟨_, rfl, ?_⟩
  rw [busRead_of_att _ ha]
  simp only [withDerivedLines_ph1]
  obtain hzero | hpos := Nat.eq_zero_or_pos s.ula.ph1.count
  · simp [takeFifo_of_count_zero hzero, fifoContents_of_count_zero hzero]
  · obtain ⟨hbyte, hleft⟩ := takeFifo_of_count_pos (n := s.params.fifoDepth) hpos
    rw [hbyte, hleft, fifoContents_of_count_pos hhead hpos]
    simp

/-! ## Channel 3 in two-byte mode -/

/-- The unread bytes of a shift buffer, the next one first (R27). -/
def shiftContents (b : ShiftBuffer) : List Byte := [b.slot0, b.slot1].take b.occ

theorem shiftContents_append {b : ShiftBuffer} (v : Byte) (h : b.occ < 2) :
    shiftContents (shiftAppend v b) = shiftContents b ++ [v] := by
  obtain h | h : b.occ = 0 ∨ b.occ = 1 := by omega
  all_goals simp [shiftContents, shiftAppend, h]

theorem shiftContents_of_occ_pos {b : ShiftBuffer} (h : 0 < b.occ) (h2 : b.occ ≤ 2) :
    shiftContents b = b.slot0 :: shiftContents (shiftPop b) := by
  obtain h | h : b.occ = 1 ∨ b.occ = 2 := by omega
  all_goals simp [shiftContents, shiftPop, h]

@[simp] theorem shiftContents_length {b : ShiftBuffer} (h : b.occ ≤ 2) : (shiftContents b).length = b.occ := by
  simpa [shiftContents] using h

/-- The state of one direction of channel 3 in two-byte mode: attached, `V` set, `fallback` in the reader's fallback
latch and the bytes `q` unread in the buffer. -/
structure Channel3Holds (buf : Ula → ShiftBuffer) (latch : Ula → Byte) (fallback : Byte) (q : List Byte) (s : State) :
    Prop where
  attached : s.att = true
  twoByte : crV s.ula.cr = true
  latch_eq : latch s.ula = fallback
  occ_le : (buf s.ula).occ ≤ 2
  contents : shiftContents (buf s.ula) = q

theorem Channel3Holds.occ_eq {buf : Ula → ShiftBuffer} {latch : Ula → Byte} {fallback : Byte} {q : List Byte}
    {s : State} (h : Channel3Holds buf latch fallback q s) : (buf s.ula).occ = q.length := by
  rw [← h.contents, shiftContents_length h.occ_le]

/-- `write` and `read` are the two ends of a queue of at most two bytes, an empty queue is read as `fallback`, and
reading the last byte leaves the channel `Free`. -/
structure TwoByteQueue (write : Byte → Instr) (read : Instr) (fallback : Byte) (Holds : List Byte → State → Prop)
    (Free : State → Prop) : Prop where
  write_next : ∀ {q s} v, Holds q s →
    ∃ t, exec (write v) s = .next t ∧ t.result = .nothing ∧ Holds (if q.length < 2 then q ++ [v] else q) t
  read_cons : ∀ {v q s}, Holds (v :: q) s →
    ∃ t, exec read s = .next t ∧ t.result = .byte v ∧ Holds q t ∧ (q = [] → Free t)
  read_nil : ∀ {s}, Holds [] s →
    ∃ t, exec read s = .next t ∧ t.result = .byte fallback ∧ Holds [] t ∧ (Free s → Free t)

/-- The source's property S3, of any queue of two bytes. -/
theorem TwoByteQueue.three_writes_three_reads {write : Byte → Instr} {read : Instr} {fallback : Byte}
    {Holds : List Byte → State → Prop} {Free : State → Prop} {s : State}
    (Q : TwoByteQueue write read fallback Holds Free) (h : Holds [] s) (a b c : Byte) :
    ∃ t, runOps [write a, write b, write c, read, read, read] s =
        some ([.nothing, .nothing, .nothing, .byte a, .byte b, .byte fallback], t) ∧ Holds [] t ∧ Free t := by
  obtain ⟨s1, e1, r1, h1⟩ := Q.write_next a h
  obtain ⟨s2, e2, r2, h2⟩ := Q.write_next b h1
  obtain ⟨s3, e3, r3, h3⟩ := Q.write_next c h2
  obtain ⟨s4, e4, r4, h4, -⟩ := Q.read_cons h3
  obtain ⟨s5, e5, r5, h5, free5⟩ := Q.read_cons h4
  obtain ⟨s6, e6, r6, h6, free6⟩ := Q.read_nil h5
  exact ⟨s6, by simp [runOps, e1, e2, e3, e4, e5, e6, r1, r2, r3, r4, r5, r6], h6, free6 (free5 rfl)⟩

theorem channelWidth_of_twoByte {cr : ControlBits} (h : crV cr = true) : channelWidth cr = 2 := if_pos h

section ShiftPaths
variable (v : Byte) {u : Ula}

@[simp] theorem putHP3_pfl : (putHP3 v u).pfl = u.pfl := by unfold putHP3; split <;> [split <;> rfl; rfl]
@[simp] theorem putPH3_hfl : (putPH3 v u).hfl = u.hfl := by unfold putPH3; split <;> [split <;> rfl; rfl]
@[simp] theorem takeHP3_pfl : (takeHP3 u).2.pfl = u.pfl := by unfold takeHP3; split <;> rfl
@[simp] theorem takePH3_hfl : (takePH3 u).2.hfl = u.hfl := by unfold takePH3; split <;> rfl

theorem putHP3_hp3_of_twoByte (h : crV u.cr = true) :
    (putHP3 v u).hp3 = if u.hp3.occ < 2 then shiftAppend v u.hp3 else u.hp3 := by
  unfold putHP3
  rw [channelWidth_of_twoByte h]
  split <;> [split <;> rfl; rfl]

theorem putPH3_ph3_of_twoByte (h : crV u.cr = true) :
    (putPH3 v u).ph3 = if u.ph3.occ < 2 then shiftAppend v u.ph3 else u.ph3 := by
  unfold putPH3
  rw [channelWidth_of_twoByte h]
  split <;> [split <;> rfl; rfl]

theorem takeHP3_of_occ_zero (h : u.hp3.occ = 0) : takeHP3 u = (u.pfl, u) := by
  simp [takeHP3, h]

theorem takePH3_of_occ_zero (h : u.ph3.occ = 0) : takePH3 u = (u.hfl, u) := by
  simp [takePH3, h]

theorem takeHP3_of_occ_pos (h : 0 < u.hp3.occ) :
    (takeHP3 u).1 = u.hp3.slot0 ∧ (takeHP3 u).2.hp3 = shiftPop u.hp3 ∧
    (takeHP3 u).2.hSA.c3 = true ∧ (u.hp3.occ = 1 → (takeHP3 u).2.pDA.c3 = false) := by
  simp +contextual [takeHP3, h]

theorem takePH3_of_occ_pos (h : 0 < u.ph3.occ) :
    (takePH3 u).1 = u.ph3.slot0 ∧ (takePH3 u).2.ph3 = shiftPop u.ph3 ∧
    (takePH3 u).2.pSA.c3 = true ∧ (u.ph3.occ = 1 → (takePH3 u).2.hDA.c3 = false) := by
  simp +contextual [takePH3, h]

end ShiftPaths

/-- A write at the two-byte width keeps the occupancy in range and appends while there is room. -/
theorem shift_write_contents {b b' : ShiftBuffer} (v : Byte) (h : b.occ ≤ 2)
    (e : b' = if b.occ < 2 then shiftAppend v b else b) :
    b'.occ ≤ 2 ∧
    shiftContents b' = if (shiftContents b).length < 2 then shiftContents b ++ [v] else shiftContents b := by
  rw [e, shiftContents_length h]
  split
  next hroom => exact ⟨by simp; omega, shiftContents_append v hroom⟩
  next => exact ⟨h, rfl⟩

/-- A read of a buffer of `q.length + 1` bytes gives the first of them and leaves the others. -/
theorem shift_read_contents {b : ShiftBuffer} {v : Byte} {q : List Byte} (h : b.occ ≤ 2)
    (e : shiftContents b = v :: q) :
    0 < b.occ ∧ b.slot0 = v ∧ (shiftPop b).occ ≤ 2 ∧ shiftContents (shiftPop b) = q := by
  have hpos : 0 < b.occ := by rw [← shiftContents_length h, e]; simp
  rw [shiftContents_of_occ_pos hpos h] at e
  obtain ⟨hv, hq⟩ := List.cons.inj e
  exact ⟨hpos, hv, by simp [shiftPop]; omega, hq⟩

section Channel3Steps
variable {buf : Ula → ShiftBuffer} {latch : Ula → Byte} {fallback v : Byte} {q : List Byte} {s : State}

/-- An attached bus write that puts `v` into the buffer at the two-byte width. -/
theorem Channel3Holds.busWrite {u : Ula} (h : Channel3Holds buf latch fallback q s)
    (hlines : ∀ u, buf (withDerivedLines u) = buf u ∧ latch (withDerivedLines u) = latch u)
    (hcr : u.cr = s.ula.cr) (hlatch : latch u = latch s.ula)
    (hbuf : buf u = if (buf s.ula).occ < 2 then shiftAppend v (buf s.ula) else buf s.ula) :
    (busWrite u s).result = .nothing ∧
    Channel3Holds buf latch fallback (if q.length < 2 then q ++ [v] else q) (busWrite u s) := by
  obtain ⟨hl, hl'⟩ := hlines u
  obtain ⟨hocc, hc⟩ := shift_write_contents v h.occ_le (hl.trans hbuf)
  rw [busWrite_of_att u h.attached]
  refine ⟨rfl, h.attached, by simpa [hcr] using h.twoByte, (hl'.trans hlatch).trans h.latch_eq, hocc, ?_⟩
  rw [← h.contents]
  exact hc

/-- An attached bus read that pops the buffer. -/
theorem Channel3Holds.busRead {r : Byte × Ula} (h : Channel3Holds buf latch fallback (v :: q) s)
    (hlines : ∀ u, buf (withDerivedLines u) = buf u ∧ latch (withDerivedLines u) = latch u)
    (hcr : r.2.cr = s.ula.cr) (hlatch : latch r.2 = latch s.ula)
    (hbyte : r.1 = (buf s.ula).slot0) (hbuf : buf r.2 = shiftPop (buf s.ula)) :
    (busRead r s).result = .byte v ∧ Channel3Holds buf latch fallback q (busRead r s) := by
  obtain ⟨hl, hl'⟩ := hlines r.2
  obtain ⟨-, hv, hocc, hc⟩ := shift_read_contents h.occ_le h.contents
  rw [busRead_of_att r h.attached]
  rw [← hbuf, ← hl] at hocc hc
  exact ⟨by simp [hbyte, hv], h.attached, by simpa [hcr] using h.twoByte, (hl'.trans hlatch).trans h.latch_eq, hocc, hc⟩

end Channel3Steps

/-- Host to parasite (R126, R156). -/
theorem hp3_twoByteQueue (fallback : Byte) :
    TwoByteQueue .hwD3 .prD3 fallback (Channel3Holds Ula.hp3 Ula.pfl fallback)
      (fun s => s.ula.pDA.c3 = false ∧ s.ula.hSA.c3 = true) where
  write_next {_ s} v h := ⟨_, rfl, h.busWrite (fun _ => ⟨rfl, rfl⟩) (putHP3_cr v (loadHfl v s.ula)) (putHP3_pfl v)
    (putHP3_hp3_of_twoByte (u := loadHfl v s.ula) v h.twoByte)⟩
  read_cons {_ _ s} h := by
    obtain ⟨hpos, -⟩ := shift_read_contents h.occ_le h.contents
    obtain ⟨hbyte, hbuf, hsa, hda⟩ := takeHP3_of_occ_pos hpos
    obtain ⟨hresult, held⟩ := h.busRead (fun _ => ⟨rfl, rfl⟩) (takeHP3_cr s.ula) takeHP3_pfl hbyte hbuf
    refine ⟨_, rfl, hresult, held, ?_⟩
    rintro rfl
    rw [busRead_of_att _ h.attached]
    exact ⟨hda h.occ_eq, hsa⟩
  read_nil h := by
    refine ⟨_, rfl, ?_⟩
    rw [busRead_of_att _ h.attached, takeHP3_of_occ_zero h.occ_eq]
    exact ⟨by simp [h.latch_eq], ⟨h.attached, h.twoByte, h.latch_eq, h.occ_le, h.contents⟩, id⟩

/-- Parasite to host (R165, R116). -/
theorem ph3_twoByteQueue (fallback : Byte) :
    TwoByteQueue .pwD3 .hrD3 fallback (Channel3Holds Ula.ph3 Ula.hfl fallback)
      (fun s => s.ula.hDA.c3 = false ∧ s.ula.pSA.c3 = true) where
  write_next {_ s} v h := ⟨_, rfl, h.busWrite (fun _ => ⟨rfl, rfl⟩) (putPH3_cr v (loadPfl v s.ula)) (putPH3_hfl v)
    (putPH3_ph3_of_twoByte (u := loadPfl v s.ula) v h.twoByte)⟩
  read_cons {_ _ s} h := by
    obtain ⟨hpos, -⟩ := shift_read_contents h.occ_le h.contents
    obtain ⟨hbyte, hbuf, hsa, hda⟩ := takePH3_of_occ_pos hpos
    obtain ⟨hresult, held⟩ := h.busRead (fun _ => ⟨rfl, rfl⟩) (takePH3_cr s.ula) takePH3_hfl hbyte hbuf
    refine ⟨_, rfl, hresult, held, ?_⟩
    rintro rfl
    rw [busRead_of_att _ h.attached]
    exact ⟨hda h.occ_eq, hsa⟩
  read_nil h := by
    refine ⟨_, rfl, ?_⟩
    rw [busRead_of_att _ h.attached, takePH3_of_occ_zero h.occ_eq]
    exact ⟨by simp [h.latch_eq], ⟨h.attached, h.twoByte, h.latch_eq, h.occ_le, h.contents⟩, id⟩

/-! ## The statements -/

/-- Settles O9: an idle step keeps the state, and every operation keeps the invariant. -/
theorem stepKeepsStateInvariant : Obligations.StepKeepsStateInvariant := by
  intro s t hs h
  obtain ⟨-, rfl⟩ | ⟨packet, rest, i, -, -, e⟩ := step_next_cases h
  · exact hs
  · exact exec_stateInv (s := { s with input := rest }) hs e

/-- Settles O10: the register state of R47 is within the type constraints, and the block is detached. -/
theorem resetMeetsStateInvariant : Obligations.ResetMeetsStateInvariant := by
  refine ⟨?_, fresh_wellTyped ?_, fun h => by cases h⟩ <;> decide

/-- Settles O11: an idle step keeps the state, and every operation but a LOAD keeps the agreement. -/
theorem stepKeepsFlagsInAgreement : Obligations.StepKeepsFlagsInAgreement := by
  intro s t hs hf hload h
  obtain ⟨-, rfl⟩ | ⟨packet, rest, i, hin, hd, e⟩ := step_next_cases h
  · exact hf
  · refine exec_flagsAgree (s := { s with input := rest }) hs hf ?_ e
    rintro tag aux block rfl
    exact hload packet rest tag aux block hin hd

/-- Settles O12: the flags agree with the cleared buffers of R47. -/
theorem resetMeetsFlagAgreement : Obligations.ResetMeetsFlagAgreement :=
  fresh_flagsAgree (by decide)

/-- Settles O20: of the ways an operation can change the registers, only a control write, a hard reset and a load reach
CR. -/
theorem onlyControlWritesResetsAndLoadsChangeCR : Obligations.OnlyControlWritesResetsAndLoadsChangeCR := by
  intro i s t e hcr
  cases exec_registerChange e with
  | kept hu => exact absurd (by rw [hu]) hcr
  | detached hu => exact absurd (by rw [hu]; rfl) hcr
  | accessed hu =>
    by_contra hother
    obtain ⟨hset, hclr, -⟩ := by simpa only [not_or, not_exists] using hother
    exact hcr (by rw [hu]; exact accessUla_cr _ _ hset hclr)
  | reset hi =>
    obtain hi | hi := hi
    · exact .inr (.inr (.inl hi))
    · exact .inr (.inr (.inr (.inl hi)))
  | loaded _ hi => exact .inr (.inr (.inr (.inr hi)))

/-- Settles O51: the push, the pop, and the frame of the FIFO. -/
theorem fifoIsABoundedQueue : Obligations.FifoIsABoundedQueue := by
  intro s hs hf ha
  obtain ⟨-, hw, -⟩ := hs
  refine ⟨fun v => exec_pwD1_contents v hw hf ha, exec_hrD1_contents hw ha, ?_⟩
  intro i t e hpop hpush hset hreset hattach hload
  rw [exec_params e, exec_ph1 e hpop hpush hset hreset hattach hload]

/-- Settles O54: each direction is a queue of two bytes. -/
theorem channelThreeTwoByteOrder : Obligations.ChannelThreeTwoByteOrder := by
  intro s a b c ha hv
  refine ⟨fun hocc => ?_, fun hocc => ?_⟩
  · obtain ⟨t, ht, held, free⟩ := (hp3_twoByteQueue s.ula.pfl).three_writes_three_reads
      ⟨ha, hv, rfl, by simp [hocc], by simp [shiftContents, hocc]⟩ a b c
    exact ⟨t, ht, held.occ_eq, free⟩
  · obtain ⟨t, ht, held, free⟩ := (ph3_twoByteQueue s.ula.hfl).three_writes_three_reads
      ⟨ha, hv, rfl, by simp [hocc], by simp [shiftContents, hocc]⟩ a b c
    exact ⟨t, ht, held.occ_eq, free⟩

end Sys2Proof.Machine

/-! PROOFS. The address space (`20_memory.md`): bus transactions of a detached block (R63), and which accesses are
operations (R61, R65). -/

namespace Sys2Proof.Machine

/-! ## Bus transactions while detached -/

theorem exec_read_of_detached {i : Instr} {side : Side} {a : Selector} {s : State}
    (h : performerOf i = .bus side .read a) (hd : s.att = false) :
    exec i s = .next { s with result := .byte s.params.idle } := by
  obtain ⟨r, e⟩ := exec_of_performer_read h s
  rw [e, busRead_of_detached r hd]

/-- The one write that can add an event of its own, the coprocessor's reset (R121), adds none. -/
theorem exec_hwCtlClr_of_detached {s : State} (m : ControlBits) (hd : s.att = false) :
    exec (.hwCtlClr m) s = .next { s with result := .nothing } := by
  simp [exec, execHwCtlClr, busWrite_of_detached, hd]

theorem exec_write_of_detached {i : Instr} {side : Side} {a : Selector} {s : State}
    (h : performerOf i = .bus side .write a) (hd : s.att = false) :
    exec i s = .next { s with result := .nothing } := by
  obtain ⟨u, e | ⟨⟨m, rfl⟩, -⟩⟩ := exec_of_performer_write h s
  · rw [e, busWrite_of_detached u hd]
  · exact exec_hwCtlClr_of_detached m hd

/-! ## Accesses as operations -/

/-- Appending is a sum of fields: the low field does not reach the bits of the high one. -/
theorem append_toNat_eq_add {m n : Nat} (x : BitVec m) (y : BitVec n) :
    (x ++ y).toNat = x.toNat * 2 ^ n + y.toNat := by
  rw [BitVec.toNat_append, ← Nat.shiftLeft_add_eq_or_of_lt y.isLt, Nat.shiftLeft_eq]

/-- A BUS13 word as a number (R81): side at bit 12, direction at bit 11, selector from bit 8, byte below. -/
theorem busWord_toNat (parasite write : Bool) (a : Selector) (v : Byte) :
    (busWord parasite write a v).toNat =
      (if parasite then 4096 else 0) + (if write then 2048 else 0) + a.toNat * 256 + v.toNat := by
  simp only [busWord, append_toNat_eq_add, BitVec.toNat_ofBool]
  cases parasite <;> cases write <;> simp <;> omega

theorem busWord_eq_ofNat {address : Nat} (parasite write : Bool) (h : address < 8) (v : Byte) :
    busWord parasite write (BitVec.ofNat 3 address) v =
      BitVec.ofNat 13 ((if parasite then 4096 else 0) + (if write then 2048 else 0) + address * 256 + v.toNat) := by
  have hword := busWord_toNat parasite write (BitVec.ofNat 3 address) v
  rw [BitVec.toNat_ofNat, Nat.mod_eq_of_lt h] at hword
  rw [← hword, BitVec.ofNat_toNat, BitVec.setWidth_eq]

theorem decode_access_of_lt (side : Side) (direction : Direction) {address : Nat} (v : Byte) (h : address < 8) :
    decode (.access side direction address 1 v) =
      .ok (decodeBus (busWord (side == .parasite) (direction == .write) (BitVec.ofNat 3 address) v)) := by
  simp [decode, h]

theorem decode_access_of_ge (side : Side) (direction : Direction) {address : Nat} (v : Byte) (h : 8 ≤ address) :
    decode (.access side direction address 1 v) = .error (.noSuchAddress address) := by
  simp [decode, h]

theorem decode_access_of_wide (side : Side) (direction : Direction) (address : Nat) {nbytes : Nat} (v : Byte)
    (h : nbytes ≠ 1) : decode (.access side direction address nbytes v) = .error (.wideAccess nbytes) := by
  simp [decode, h]

/-! ## The statements -/

/-- Settles O15: each transaction is the common read or write frame, which leaves a detached block alone. -/
theorem detachedBusTransactionsAreNoOps : Obligations.DetachedBusTransactionsAreNoOps :=
  fun _ _ hd => ⟨fun _ _ h => exec_read_of_detached h hd, fun _ _ h => exec_write_of_detached h hd⟩

/-- Settles O6, by the three equations of the decoder on accesses; below address 8 the word's fields are summed. -/
theorem onlyByteAccessesToEightAddressesAreOperations :
    Obligations.OnlyByteAccessesToEightAddressesAreOperations := by
  intro side direction address nbytes v
  refine ⟨?_, ?_, decode_access_of_wide side direction address v⟩
  · rintro rfl h
    rw [decode_access_of_lt side direction v h, busWord_eq_ofNat _ _ h]
    simp [decode]
  · rintro rfl h
    exact decode_access_of_ge side direction v h

end Sys2Proof.Machine

/-! PROOFS. The encodings (`30_encoding.md`): the fields of a BUS13 word, decode of encode and encode of decode, the
opcode table (R80 to R93), and the status reads of both sides (R84 to R86). -/

namespace Sys2Proof.Machine

open Sys2Proof.Laws

/-! ## The fields of a BUS13 word (R81) and of the control byte (R87) -/

section Fields
variable (parasite write : Bool) (a : Selector) (v : Byte) (w : BitVec 13)

/-- Each bit of a word is a bit of the field it lies in. -/
@[simp] theorem busWord_getElem {j : Nat} (h : j < 13) :
    (busWord parasite write a v)[j] =
      if j < 8 then v.getLsbD j else if j < 11 then a.getLsbD (j - 8) else if j = 11 then write else parasite := by
  rw [← BitVec.getLsbD_eq_getElem]
  simp only [busWord, BitVec.getLsbD_append]
  interval_cases j <;> simp

@[simp] theorem wordByte_busWord : wordByte (busWord parasite write a v) = v :=
  BitVec.extractLsb'_append_eq_right

@[simp] theorem wordFlags_busWord : wordFlags (busWord parasite write a v) = v.extractLsb' 0 7 :=
  BitVec.extractLsb'_append_eq_of_add_le (by decide)

@[simp] theorem selector_busWord : (busWord parasite write a v).extractLsb' 8 3 = a := by
  rw [busWord, BitVec.extractLsb'_append_eq_of_le (by decide)]
  exact BitVec.extractLsb'_append_eq_right

/-- The selector by the three bits the decoder looks at. -/
theorem selector_eq_bits :
    w.extractLsb' 8 3 =
      BitVec.ofBool (w.getLsbD 10) ++ BitVec.ofBool (w.getLsbD 9) ++ BitVec.ofBool (w.getLsbD 8) := by
  apply BitVec.eq_of_getLsbD_eq
  intro j hj
  simp only [BitVec.getLsbD_append, BitVec.getLsbD_extractLsb']
  interval_cases j <;> simp

/-- A word is the word of its four fields. -/
theorem busWord_of_fields :
    busWord (w.getLsbD 12) (w.getLsbD 11) (w.extractLsb' 8 3) (wordByte w) = w := by
  apply BitVec.eq_of_getElem_eq
  intro j hj
  rw [busWord_getElem]
  simp only [wordByte, BitVec.getLsbD_extractLsb']
  interval_cases j <;> simp

@[simp] theorem controlByte_mode (set : Bool) (m : ControlBits) : (controlByte set m)[7] = set := by
  rw [← BitVec.getLsbD_eq_getElem, controlByte, BitVec.getLsbD_append]
  simp

@[simp] theorem controlByte_flags (set : Bool) (m : ControlBits) : (controlByte set m).extractLsb' 0 7 = m :=
  BitVec.extractLsb'_append_eq_right

/-- The byte of a word is the control byte of its mode flag and its flag bits. -/
theorem controlByte_of_word : controlByte (w.getLsbD 7) (wordFlags w) = wordByte w := by
  apply BitVec.eq_of_getLsbD_eq
  intro j hj
  simp only [controlByte, BitVec.getLsbD_append, wordByte, wordFlags, BitVec.getLsbD_extractLsb']
  interval_cases j <;> simp

end Fields

/-- A word determines its fields. -/
theorem busWord_inj {p p' d d' : Bool} {a a' : Selector} {v v' : Byte}
    (h : busWord p d a v = busWord p' d' a' v') :
    p = p' ∧ d = d' ∧ a = a' ∧ v = v' :=
  ⟨by simpa using congrArg (·.getLsbD 12) h, by simpa using congrArg (·.getLsbD 11) h,
    by simpa using congrArg (·.extractLsb' 8 3) h, by simpa using congrArg wordByte h⟩

/-! ## Decode of encode and encode of decode -/

/-- A read's and an event's packet is decoded by computing; a write's word by its fields. -/
theorem decode_encode (i : Instr) : decode (encode i) = .ok i := by
  cases i with
  | hwCtlSet | hwCtlClr | hwD1 | hwS2 | hwD2 | hwS3 | hwD3 | hwS4 | hwD4
  | pwS1 | pwD1 | pwS2 | pwD2 | pwS3 | pwD3 | pwS4 | pwD4 => simp [encode, decode, decodeBus]
  | _ => rfl

/-- The packet of a word's operation has the side, direction and selector of the word, and its byte for a write. Branch
by branch of the decoder; the two control writes (its branches 9 and 10) hold the byte as mode flag and flag bits. -/
theorem encode_decodeBus (w : BitVec 13) :
    encode (decodeBus w) =
      .bus (busWord (w.getLsbD 12) (w.getLsbD 11) (w.extractLsb' 8 3)
        (if w.getLsbD 11 then wordByte w else 0#8)) := by
  rw [selector_eq_bits]
  fun_cases decodeBus w
  case case9 | case10 =>
    simp only [encode, *, ← controlByte_of_word w]
    rfl
  all_goals
    simp only [encode, *]
    rfl

theorem encode_decodeBus_of_write {w : BitVec 13} (h : w.getLsbD 11 = true) : encode (decodeBus w) = .bus w := by
  rw [encode_decodeBus, if_pos h, busWord_of_fields]

theorem encode_decodeBus_of_read {w : BitVec 13} (h : w.getLsbD 11 = false) :
    encode (decodeBus w) = .bus (w &&& 0x1F00#13) := by
  rw [encode_decodeBus, h, if_neg Bool.false_ne_true, ← EncodedRow.busWord_and_mask _ _ _ (wordByte w), ← h,
    busWord_of_fields]

/-- The word of a bus transaction has the side, direction and address of its performer (R61). -/
theorem encode_of_performer {i : Instr} {side : Side} {direction : Direction} {a : Selector}
    (h : performerOf i = .bus side direction a) :
    ∃ v, encode i = .bus (busWord (side == .parasite) (direction == .write) a v) := by
  cases i <;> cases h <;> exact ⟨_, rfl⟩

/-- The events of the environment are no words. -/
theorem encode_of_environment {i : Instr} (h : performerOf i = .environment) :
    ∃ code ops, encode i = .mgmt code ops := by
  cases i <;> cases h <;> exact ⟨_, _, rfl⟩

/-- Both the packet of the operation and the word show side, direction and address in the same fields. -/
theorem performerOf_decodeBus (w : BitVec 13) :
    performerOf (decodeBus w) =
      .bus (if w.getLsbD 12 then .parasite else .host) (if w.getLsbD 11 then .write else .read)
        (w.extractLsb' 8 3) := by
  have hw := encode_decodeBus w
  cases hp : performerOf (decodeBus w) with
  | environment =>
    obtain ⟨code, ops, he⟩ := encode_of_environment hp
    cases he.symm.trans hw
  | bus side direction a =>
    obtain ⟨v, he⟩ := encode_of_performer hp
    obtain ⟨hs, hd, ha, -⟩ := busWord_inj (Packet.bus.inj (hw.symm.trans he))
    rw [hs, hd, ha]
    cases side <;> cases direction <;> rfl

/-! ## The rows of the opcode table (R93) -/

/-- Every operation's packet is of the row that carries its mnemonic, in the order of the constructors. -/
theorem encodedRow (i : Instr) : EncodedRow.Statement i := by
  cases i
  exacts [EncodedRow.hrS1, EncodedRow.hrD1, EncodedRow.hrS2, EncodedRow.hrD2,
    EncodedRow.hrS3, EncodedRow.hrD3, EncodedRow.hrS4, EncodedRow.hrD4,
    EncodedRow.hwCtlSet _, EncodedRow.hwCtlClr _, EncodedRow.hwD1 _, EncodedRow.hwS2 _, EncodedRow.hwD2 _,
    EncodedRow.hwS3 _, EncodedRow.hwD3 _, EncodedRow.hwS4 _, EncodedRow.hwD4 _,
    EncodedRow.prS1, EncodedRow.prD1, EncodedRow.prS2, EncodedRow.prD2,
    EncodedRow.prS3, EncodedRow.prD3, EncodedRow.prS4, EncodedRow.prD4,
    EncodedRow.pwS1 _, EncodedRow.pwD1 _, EncodedRow.pwS2 _, EncodedRow.pwD2 _,
    EncodedRow.pwS3 _, EncodedRow.pwD3 _, EncodedRow.pwS4 _, EncodedRow.pwD4 _,
    EncodedRow.hreset, EncodedRow.loadcfg _, EncodedRow.findcpu _, EncodedRow.select _,
    EncodedRow.attach _ _, EncodedRow.speed _, EncodedRow.save, EncodedRow.load _ _ _]

/-- Two rows differ in a bit that the masks of both keep, so that no word is of both (`eq_of_covers`). -/
abbrev RowsDiffer (q r : OpcodeRow) : Prop := q.bits &&& r.mask ≠ r.bits &&& q.mask

theorem opcodeRows_pairwise_differ : opcodeRows.Pairwise RowsDiffer := by
  decide

theorem eq_of_covers {q r : OpcodeRow} {w : BitVec 13} (hq : q ∈ opcodeRows) (hr : r ∈ opcodeRows)
    (cq : q.covers w = true) (cr : r.covers w = true) : q = r := by
  by_contra hne
  have hsymm : Std.Symm RowsDiffer := ⟨fun _ _ h => h.symm⟩
  apply opcodeRows_pairwise_differ.forall hq hr hne
  simp only [OpcodeRow.covers, beq_iff_eq] at cq cr
  rw [← cq, ← cr, BitVec.and_assoc, BitVec.and_assoc, BitVec.and_comm q.mask]

/-- Only the two control-write rows look at a bit of the byte. -/
theorem opcodeRow_mask_or_write : ∀ r ∈ opcodeRows, r.mask = 0x1F00#13 ∨ r.bits.getLsbD 11 = true := by
  decide

/-- A row that covers the word of a read covers it whatever the ignored bits are (R81). -/
theorem covers_of_covers_masked {r : OpcodeRow} {w : BitVec 13} (hr : r ∈ opcodeRows) (h : w.getLsbD 11 = false)
    (c : r.covers (w &&& 0x1F00#13) = true) : r.covers w = true := by
  simp only [OpcodeRow.covers, beq_iff_eq] at c ⊢
  obtain hm | hb := opcodeRow_mask_or_write r hr
  · rw [← c, hm, BitVec.and_assoc, BitVec.and_self]
  · have hbit := congrArg (·.getLsbD 11) c
    simp only [BitVec.getLsbD_and, h, hb, Bool.false_and] at hbit
    cases hbit

/-- The row of the operation's own packet covers the word: the packet has every bit of the word that a row looks at. -/
theorem exists_row_covers (w : BitVec 13) :
    ∃ r ∈ opcodeRows, r.mnemonic = (decodeBus w).mnemonic ∧ r.covers w = true := by
  obtain ⟨w', he, r, hr, hm, hc⟩ | ⟨code, ops, he, -⟩ := encodedRow (decodeBus w)
  · refine ⟨r, hr, hm, ?_⟩
    cases hd : w.getLsbD 11 with
    | true =>
      cases (encode_decodeBus_of_write hd).symm.trans he
      exact hc
    | false =>
      cases (encode_decodeBus_of_read hd).symm.trans he
      exact covers_of_covers_masked hr hd hc
  · cases he.symm.trans (encode_decodeBus w)

/-! ## Management codes -/

theorem decodeMgmt_of_eight_le {code : BitVec 4} (h : 8 ≤ code.toNat) (ops : Operands) :
    decodeMgmt code ops = .error (.unassignedCode code) := by
  obtain ⟨k, hk⟩ := Nat.exists_eq_add_of_le' h
  simp only [decodeMgmt, hk]

/-! ## Status bytes (R84 to R86) -/

theorem statusByte_toNat (da sa : Bool) (low : BitVec 6) :
    (statusByte da sa low).toNat = da.toNat * 128 + sa.toNat * 64 + low.toNat := by
  simp only [statusByte, append_toNat_eq_add, BitVec.toNat_ofBool]
  omega

theorem crLow_toNat (cr : ControlBits) : (crLow cr).toNat = cr.toNat % 64 :=
  BitVec.extractLsb'_toNat ..

section StatusReads
variable {i : Instr} {s : State} {da sa : Bool}

/-- A read that gives a status byte, while attached: its byte is known and the registers are kept. -/
theorem status_read_effect {low : BitVec 6} (ha : s.att = true)
    (e : exec i s = .next (busRead (statusByte da sa low, s.ula) s)) :
    ∃ t v, exec i s = .next t ∧ BusEffect s t (.byte v) s.ula ∧
      v.toNat = da.toNat * 128 + sa.toNat * 64 + low.toNat :=
  ⟨_, _, e, busRead_effect ha rfl rfl rfl, statusByte_toNat da sa low⟩

/-- For channel 1, which shows CR[5:0] (R86). -/
theorem control_status_read_effect (ha : s.att = true)
    (e : exec i s = .next (busRead (statusByte da sa (crLow s.ula.cr), s.ula) s)) :
    ∃ t v, exec i s = .next t ∧ BusEffect s t (.byte v) s.ula ∧
      v.toNat = da.toNat * 128 + sa.toNat * 64 + s.ula.cr.toNat % 64 := by
  rw [← crLow_toNat]
  exact status_read_effect ha e

/-- For channels 2 to 4, whose low bits are 0 (R85). -/
theorem flags_status_read_effect (ha : s.att = true)
    (e : exec i s = .next (busRead (statusByte da sa 0#6, s.ula) s)) :
    ∃ t v, exec i s = .next t ∧ BusEffect s t (.byte v) s.ula ∧ v.toNat = da.toNat * 128 + sa.toNat * 64 := by
  simpa only [BitVec.toNat_zero, Nat.add_zero] using status_read_effect ha e

end StatusReads

/-! ## The statements -/

/-- Settles O1, constructor by constructor. -/
theorem decodeOfEncodeIsTheOperation : Obligations.DecodeOfEncodeIsTheOperation :=
  decode_encode

/-- Settles O2: the row is that of the operation's own packet, and the rows differ pairwise. -/
theorem everyBusWordIsInExactlyOneRow : Obligations.EveryBusWordIsInExactlyOneRow := by
  intro w
  obtain ⟨r, hr, hm, hc⟩ := exists_row_covers w
  exact ⟨rfl, r, hr, hc, hm, fun q hq hcq => eq_of_covers hq hr hcq hc⟩

/-- Settles O3, branch by branch of the decoder. -/
theorem encodingABusWordKeepsItsBits : Obligations.EncodingABusWordKeepsItsBits :=
  fun _ => ⟨encode_decodeBus_of_write, encode_decodeBus_of_read⟩

/-- Settles O4: encoding shows the performer in the same three fields, and encoding keeps those of the word. -/
theorem busWordFieldsNameTheAccess : Obligations.BusWordFieldsNameTheAccess :=
  performerOf_decodeBus

/-- Settles O5: the eight codes with their operands are packets of operations; the decoder's last arm takes the rest. -/
theorem managementCodesNameTheEvents : Obligations.ManagementCodesNameTheEvents :=
  ⟨decode_encode .hreset, fun source => decode_encode (.loadcfg source), fun name => decode_encode (.findcpu name),
    fun index => decode_encode (.select index), fun fs initOk => decode_encode (.attach fs initOk),
    fun preset => decode_encode (.speed preset), decode_encode .save,
    fun tag aux block => decode_encode (.load tag aux block),
    fun _ ops _ _ hc hin => step_of_decode_error hin (decodeMgmt_of_eight_le hc ops)⟩

/-- Settles O7: each word, as the table writes it, is the packet of its operation. -/
theorem sampleWordsDecode : Obligations.SampleWordsDecode :=
  ⟨decode_encode .hrS1, decode_encode .hrD3, decode_encode (.hwCtlSet 0b0000001#7),
    decode_encode (.hwCtlClr 0b0100000#7), decode_encode (.hwD2 0x5A#8), decode_encode .prD1,
    decode_encode (.pwD1 0x11#8), decode_encode (.pwD4 0x07#8)⟩

/-- Settles O23: the four reads are the common read frame around the status bytes of `H_DA` and `H_SA`. -/
theorem hostStatusReadsReturnTheHostView : Obligations.HostStatusReadsReturnTheHostView :=
  fun _ ha => ⟨control_status_read_effect ha rfl, flags_status_read_effect ha rfl, flags_status_read_effect ha rfl,
    flags_status_read_effect ha rfl, rfl, rfl, rfl, rfl⟩

/-- Settles O32: the four reads are the common read frame around the status bytes of `P_DA` and `P_SA`. -/
theorem parasiteStatusReadsReturnTheParasiteView : Obligations.ParasiteStatusReadsReturnTheParasiteView :=
  fun _ ha => ⟨control_status_read_effect ha rfl, flags_status_read_effect ha rfl, flags_status_read_effect ha rfl,
    flags_status_read_effect ha rfl, rfl, rfl, rfl, rfl⟩

end Sys2Proof.Machine

/-! PROOFS. The host's accesses (`40_host_access.md`): the words of the writes, the effect of every data access and of
the two control writes, the calls of the coprocessor's `reset()`, and channel 2 in both directions. -/

namespace Sys2Proof.Machine

open Sys2Proof.Config

/-! ## The words of the writes (R81) and the control byte (R87) -/

/-- A write's word is the word of its row with the byte in the low bits. -/
theorem busWord_eq_add (parasite write : Bool) (a : Selector) (v : Byte) :
    busWord parasite write a v = busWord parasite write a 0#8 + v.setWidth 13 := by
  have hv : v.toNat % 2 ^ 13 = v.toNat := Nat.mod_eq_of_lt (by omega)
  have hsum := busWord_toNat parasite write a v
  have hrow := busWord_toNat parasite write a 0#8
  apply BitVec.eq_of_toNat_eq
  rw [BitVec.toNat_add, BitVec.toNat_setWidth, hv, hrow, ← Nat.mod_eq_of_lt (busWord parasite write a v).isLt, hsum]
  rfl

/-- The packet of a write of `v`, where `w` is the word of its row. -/
theorem bus_busWord_eq_add {parasite write : Bool} {a : Selector} {w : BitVec 13} (v : Byte)
    (h : busWord parasite write a 0#8 = w) :
    Packet.bus (busWord parasite write a v) = .bus (w + v.setWidth 13) := by
  rw [busWord_eq_add, h]

/-- A control byte is its mode flag above its flag bits. -/
theorem controlByte_of_mode {v : Byte} {set : Bool} (h : v.getLsbD 7 = set) :
    controlByte set (v.extractLsb' 0 7) = v := by
  subst h
  simpa using controlByte_of_word (busWord false true 0#3 v)

theorem decode_control_word {v : Byte} {i : Instr}
    (h : encode i = .bus (busWord false true 0#3 v)) : decode (.bus (0x0800#13 + v.setWidth 13)) = .ok i := by
  have hw : busWord false true 0#3 0#8 = 0x0800#13 := rfl
  rw [← bus_busWord_eq_add v hw, ← h, decode_encode]

/-! ## Attached accesses -/

section Effects
variable {i : Instr} {s : State} {u : Ula}

/-- The frame of an attached read whose register gives `b` and leaves `u`. -/
theorem exec_read_effect {r : Byte × Ula} {b : Byte} (ha : s.att = true) (e : exec i s = .next (busRead r s))
    (hr : r = (b, u)) (h1 : u.hirq = s.ula.hirq) (h2 : u.pirq = s.ula.pirq) (h3 : u.pnmi = s.ula.pnmi) :
    ∃ t, exec i s = .next t ∧ BusEffect s t (.byte b) u := by
  subst hr
  exact ⟨_, e, busRead_effect ha h1 h2 h3⟩

/-- The frame of an attached write whose register leaves `u`. -/
theorem exec_write_effect {w : Ula} (ha : s.att = true) (e : exec i s = .next (busWrite w s)) (hw : w = u)
    (h1 : u.hirq = s.ula.hirq) (h2 : u.pirq = s.ula.pirq) (h3 : u.pnmi = s.ula.pnmi) :
    ∃ t, exec i s = .next t ∧ BusEffect s t .nothing u := by
  subst hw
  exact ⟨_, e, busWrite_effect ha h1 h2 h3⟩

end Effects

/-! ## The FIFO read (R112) -/

/-- The flag of a buffer of `k` bytes after one of them is read: kept while a byte is left. -/
theorem flag_after_read {k : Nat} (f : Bool) (h : 0 < k) :
    (if k - 1 = 0 then false else f) = (f && decide (1 < k)) := by
  by_cases hk : k = 1
  · simp [hk]
  · simp [show k - 1 ≠ 0 by omega, show 1 < k by omega]

theorem takeFifo_eq_of_count_pos {u : Ula} (n : Nat) (h : 0 < u.ph1.count) :
    takeFifo n u = (fifoFront u.ph1,
      { u with
        ph1 := fifoPop n u.ph1
        hDA := { u.hDA with c1 := u.hDA.c1 && decide (1 < u.ph1.count) }
        pSA := { u.pSA with c1 := true } }) := by
  rw [takeFifo, if_pos h, ← flag_after_read _ h]
  split <;> rfl

/-! ## Channel 3 (R116, R126) -/

theorem takePH3_eq_of_occ_pos {u : Ula} (h : 0 < u.ph3.occ) :
    takePH3 u = (u.ph3.slot0,
      { u with
        ph3 := shiftPop u.ph3
        hDA := { u.hDA with c3 := u.hDA.c3 && decide (1 < u.ph3.occ) }
        pSA := { u.pSA with c3 := true } }) := by
  rw [takePH3, if_pos h, ← flag_after_read _ h]
  split <;> rfl

theorem shiftAppend_of_occ_zero {b : ShiftBuffer} (v : Byte) (h : b.occ = 0) :
    shiftAppend v b = ⟨v, b.slot1, 1⟩ := by
  simp [shiftAppend, h]

theorem shiftAppend_of_occ_one {b : ShiftBuffer} (v : Byte) (h : b.occ = 1) :
    shiftAppend v b = ⟨b.slot0, v, 2⟩ := by
  simp [shiftAppend, h]

section HostShiftWrite
variable {u : Ula} (v : Byte)

/-- The byte that fills the active width completes the datum. -/
theorem putHP3_of_last (h : u.hp3.occ + 1 = channelWidth u.cr) :
    putHP3 v u = { u with
      hp3 := shiftAppend v u.hp3
      pDA := { u.pDA with c3 := true }
      hSA := { u.hSA with c3 := false } } := by
  rw [putHP3, if_pos (by omega), if_pos h.ge]

theorem putHP3_of_not_last (h : u.hp3.occ + 1 < channelWidth u.cr) :
    putHP3 v u = { u with hp3 := shiftAppend v u.hp3 } := by
  rw [putHP3, if_pos (by omega), if_neg (by omega)]

theorem putHP3_of_full (h : channelWidth u.cr ≤ u.hp3.occ) : putHP3 v u = u := by
  rw [putHP3, if_neg (by omega)]

end HostShiftWrite

theorem channelWidth_of_oneByte {cr : ControlBits} (h : crV cr = false) : channelWidth cr = 1 := by
  simp [channelWidth, h]

/-! ## The control writes (R120, R121) -/

/-- A set-mode write raises T exactly when it names it, T being 0. -/
theorem soft_reset_iff (cr m : ControlBits) :
    (crT cr = false ∧ crT (cr ||| m) = true) ↔ (cr.getLsbD 6 = false ∧ m.getLsbD 6 = true) := by
  simp +contextual [crT]

theorem setControl_of_trigger {m : ControlBits} {u : Ula} (n : Nat)
    (h : u.cr.getLsbD 6 = false ∧ m.getLsbD 6 = true) :
    setControl n m u = clearChannels n { u with cr := u.cr ||| m } :=
  if_pos ((soft_reset_iff u.cr m).mpr h)

theorem setControl_of_no_trigger {m : ControlBits} {u : Ula} (n : Nat)
    (h : ¬ (u.cr.getLsbD 6 = false ∧ m.getLsbD 6 = true)) : setControl n m u = { u with cr := u.cr ||| m } :=
  if_neg (mt (soft_reset_iff u.cr m).mp h)

/-- A clear-mode write takes P from 1 to 0 exactly when it names P, P being 1. -/
theorem release_iff (cr m : ControlBits) :
    (crP cr && !crP (cr &&& ~~~m)) = true ↔ cr.getLsbD 5 = true ∧ m.getLsbD 5 = true := by
  simp +contextual [crP]

/-- The clear-mode write of `m` releases the reset-hold of an attached coprocessor. -/
def ReleasesHold (m : ControlBits) (s : State) : Prop :=
  s.att = true ∧ s.ula.cr.getLsbD 5 = true ∧ m.getLsbD 5 = true

theorem not_releasesHold_of_clear {s : State} (m : ControlBits) (h : s.ula.cr.getLsbD 5 = false) :
    ¬ ReleasesHold m s :=
  fun ⟨_, hP, _⟩ => Bool.false_ne_true (h.symm.trans hP)

section ClearMode
variable {s : State} {m : ControlBits}

theorem exec_hwCtlClr_of_release (h : ReleasesHold m s) :
    exec (.hwCtlClr m) s =
      .next ((busWrite (clearControl m (loadHfl (controlByte false m) s.ula)) s).emit (.cpuReset s.cpu)) := by
  simp only [exec, execHwCtlClr, Bool.and_assoc, Bool.and_eq_true s.att, release_iff, if_pos (show _ ∧ _ from h)]

theorem exec_hwCtlClr_of_no_release (h : ¬ ReleasesHold m s) :
    exec (.hwCtlClr m) s = .next (busWrite (clearControl m (loadHfl (controlByte false m) s.ula)) s) := by
  simp only [exec, execHwCtlClr, Bool.and_assoc, Bool.and_eq_true s.att, release_iff, if_neg (show ¬ (_ ∧ _) from h)]

end ClearMode

/-! ## Who calls the coprocessor's reset (R121, R286, R290) -/

/-- From `s` to `t` events were only appended, and none of them is a call of a coprocessor's `reset()`. -/
def EmitsNoCpuReset (s t : State) : Prop :=
  ∃ new, t.events = s.events ++ new ∧ ∀ c, Event.cpuReset c ∉ new

section EmitsNoCpuReset
variable {i : Instr} {s t r : State}

theorem EmitsNoCpuReset.of_events_eq (h : t.events = s.events) : EmitsNoCpuReset s t :=
  ⟨[], by simp [h], by simp⟩

theorem EmitsNoCpuReset.trans (h : EmitsNoCpuReset s t) (h' : EmitsNoCpuReset t r) : EmitsNoCpuReset s r := by
  obtain ⟨new, e, hn⟩ := h
  obtain ⟨new', e', hn'⟩ := h'
  exact ⟨new ++ new', by rw [e', e, List.append_assoc], fun c => by simp [hn, hn']⟩

theorem EmitsNoCpuReset.count_eq (h : EmitsNoCpuReset s t) (c : CpuTypeDescriptor) :
    t.events.count (.cpuReset c) = s.events.count (.cpuReset c) := by
  obtain ⟨new, e, hn⟩ := h
  rw [e, List.count_append, List.count_eq_zero_of_not_mem (hn c), Nat.add_zero]

theorem cpuReset_not_mem_lineEvents (c cpu : CpuTypeDescriptor) (a b : Ula) :
    Event.cpuReset c ∉ lineEvents cpu a b := by
  simp [lineEvents]

theorem emit_emitsNoCpuReset {e : Event} (s : State) (h : ∀ c, e ≠ .cpuReset c) : EmitsNoCpuReset s (s.emit e) :=
  ⟨[e], rfl, fun c => by simpa using (h c).symm⟩

theorem updateInts_emitsNoCpuReset (s : State) : EmitsNoCpuReset s (updateInts s) := by
  cases ha : s.att with
  | true =>
    rw [updateInts_of_att ha]
    exact ⟨_, rfl, fun c => cpuReset_not_mem_lineEvents c _ _ _⟩
  | false => exact .of_events_eq (by rw [updateInts_of_detached ha])

theorem busRead_emitsNoCpuReset (r : Byte × Ula) (s : State) : EmitsNoCpuReset s (busRead r s) := by
  unfold busRead
  split
  · exact updateInts_emitsNoCpuReset (s.withUla r.2)
  · exact .of_events_eq rfl

theorem busWrite_emitsNoCpuReset (u : Ula) (s : State) : EmitsNoCpuReset s (busWrite u s) := by
  unfold busWrite
  split
  · exact updateInts_emitsNoCpuReset (s.withUla u)
  · exact .of_events_eq rfl

/-- A reset of the ULA is no reset of the coprocessor (R286). -/
theorem hardReset_emitsNoCpuReset (s : State) : EmitsNoCpuReset s (hardReset s) :=
  updateInts_emitsNoCpuReset (s.withUla _)

theorem detach_emitsNoCpuReset (s : State) : EmitsNoCpuReset s (detach s) := by
  unfold detach
  split
  · exact ⟨[.hostIrq false], rfl, by simp⟩
  · exact .of_events_eq rfl

theorem detachIfAttached_emitsNoCpuReset (s : State) : EmitsNoCpuReset s (detachIfAttached s) := by
  unfold detachIfAttached
  split
  · exact detach_emitsNoCpuReset s
  · exact .of_events_eq rfl

theorem attachSelected_emitsNoCpuReset (fs : FsAnswer) (ok : Bool) (s : State) :
    EmitsNoCpuReset s (attachSelected fs ok s) := by
  have hd := detachIfAttached_emitsNoCpuReset s
  obtain ⟨-, e⟩ | ⟨cfg, cpu, -, ⟨-, e⟩ | ⟨-, -, e⟩ | ⟨-, -, e⟩⟩ := attachSelected_cases fs ok s <;> rw [e]
  · exact hd
  · exact hd.trans (emit_emitsNoCpuReset _ (by simp))
  · exact hd.trans (emit_emitsNoCpuReset _ (by simp))
  · exact (hd.trans (emit_emitsNoCpuReset _ (by simp))).trans (hardReset_emitsNoCpuReset (State.withAttached _ cpu _))

theorem execLoadcfg_emitsNoCpuReset {source : List ConfigSection} (e : execLoadcfg source s = .next t) :
    EmitsNoCpuReset s t := by
  unfold execLoadcfg at e
  split at e
  · obtain rfl := Host.Outcome.next.inj e
    exact .of_events_eq rfl
  · cases e

theorem execSelect_emitsNoCpuReset {index : Option Int} (e : execSelect index s = .next t) : EmitsNoCpuReset s t := by
  obtain rfl := Host.Outcome.next.inj e
  split
  · exact .of_events_eq rfl
  · exact detach_emitsNoCpuReset s

theorem finishLoad_emitsNoCpuReset {u : Ula} {aux : Bool} (e : finishLoad u aux s = .next t) :
    EmitsNoCpuReset s t := by
  obtain ⟨-, ⟨-, rfl⟩ | ⟨-, rfl⟩⟩ := finishLoad_next e
  · exact ⟨_, rfl, fun c => cpuReset_not_mem_lineEvents c _ _ _⟩
  · exact .of_events_eq rfl

theorem execLoad_emitsNoCpuReset {tag aux : Byte} {block : List Byte} (e : execLoad tag aux block s = .next t) :
    EmitsNoCpuReset s t := by
  unfold execLoad at e
  split at e <;> split at e
  · exact finishLoad_emitsNoCpuReset e
  · cases e
  · exact finishLoad_emitsNoCpuReset e
  · cases e

theorem execHreset_emitsNoCpuReset (e : execHreset s = .next t) : EmitsNoCpuReset s t := by
  obtain rfl := Host.Outcome.next.inj e
  split
  · exact hardReset_emitsNoCpuReset s
  · exact .of_events_eq rfl

theorem exec_environment_emitsNoCpuReset (h : performerOf i = .environment) (e : exec i s = .next t) :
    EmitsNoCpuReset s t := by
  cases i with
  | hreset => exact execHreset_emitsNoCpuReset e
  | loadcfg source => exact execLoadcfg_emitsNoCpuReset e
  | select index => exact execSelect_emitsNoCpuReset e
  | attach fs ok =>
    obtain rfl := Host.Outcome.next.inj e
    exact attachSelected_emitsNoCpuReset fs ok s
  | load tag aux block => exact execLoad_emitsNoCpuReset e
  | findcpu | speed | save =>
    obtain rfl := Host.Outcome.next.inj e
    exact .of_events_eq rfl
  | _ => cases h

/-- No operation but the clear-mode control write calls a coprocessor's `reset()`. -/
theorem exec_emitsNoCpuReset (hi : ∀ m, i ≠ .hwCtlClr m) (e : exec i s = .next t) : EmitsNoCpuReset s t := by
  cases h : performerOf i with
  | environment => exact exec_environment_emitsNoCpuReset h e
  | bus side direction a =>
    cases direction with
    | read =>
      obtain ⟨r, er⟩ := exec_of_performer_read h s
      obtain rfl := Host.Outcome.next.inj (er.symm.trans e)
      exact busRead_emitsNoCpuReset r s
    | write =>
      obtain ⟨u, eu | ⟨⟨m, hm⟩, -⟩⟩ := exec_of_performer_write h s
      · obtain rfl := Host.Outcome.next.inj (eu.symm.trans e)
        exact busWrite_emitsNoCpuReset u s
      · exact absurd hm (hi m)

/-- An operation calls no `reset()`, or it is the release of a reset-hold (R121). -/
theorem emitsNoCpuReset_or_releasesHold (e : exec i s = .next t) :
    EmitsNoCpuReset s t ∨ ∃ m, i = .hwCtlClr m ∧ ReleasesHold m s := by
  by_cases hi : ∃ m, i = .hwCtlClr m
  · obtain ⟨m, rfl⟩ := hi
    by_cases h : ReleasesHold m s
    · exact .inr ⟨m, rfl, h⟩
    · obtain rfl := Host.Outcome.next.inj ((exec_hwCtlClr_of_no_release h).symm.trans e)
      exact .inl (busWrite_emitsNoCpuReset _ s)
  · exact .inl (exec_emitsNoCpuReset (not_exists.mp hi) e)

end EmitsNoCpuReset

/-- The release of the reset-hold appends one call of `reset()`, last, and leaves P clear. -/
theorem exec_release {s t : State} {m : ControlBits} (h : ReleasesHold m s) (e : exec (.hwCtlClr m) s = .next t) :
    t.ula.cr.getLsbD 5 = false ∧
    ∃ new, t.events = s.events ++ (new ++ [.cpuReset s.cpu]) ∧ ∀ c, Event.cpuReset c ∉ new := by
  obtain rfl := Host.Outcome.next.inj ((exec_hwCtlClr_of_release h).symm.trans e)
  obtain ⟨new, hnew, hn⟩ := busWrite_emitsNoCpuReset (clearControl m (loadHfl (controlByte false m) s.ula)) s
  obtain ⟨ha, -, hm⟩ := h
  exact ⟨by simp [busWrite_of_att _ ha, hm], new, by simp [hnew], hn⟩

theorem count_append_cpuReset {new : List Event} {c : CpuTypeDescriptor} (h : Event.cpuReset c ∉ new) :
    (new ++ [Event.cpuReset c]).count (.cpuReset c) = 1 := by
  rw [List.count_append, List.count_eq_zero_of_not_mem h, List.count_singleton_self]

/-! ## Channel 2 -/

/-- Bit 7 of a status byte is the data flag (R84). -/
theorem statusByte_da (da sa : Bool) (low : BitVec 6) : (statusByte da sa low).getLsbD 7 = da := by
  simp only [statusByte, BitVec.getLsbD_append]
  simp

/-- One direction of channel 2 while attached: `v` in the latch and the reader's data flag at `da`. -/
structure Channel2Holds (latch : Ula → Byte) (flag : Ula → Bool) (v : Byte) (da : Bool) (s : State) : Prop where
  attached : s.att = true
  latch_eq : latch s.ula = v
  flag_eq : flag s.ula = da

/-- `write`, `status` and `read` are the accesses to a one-byte latch whose data flag the status shows in bit 7: a read
gives the latest byte, read before or not, and clears the flag. -/
structure LatchChannel (write : Byte → Instr) (status read : Instr) (Holds : Byte → Bool → State → Prop) : Prop where
  write_next : ∀ {s} v, s.att = true → ∃ t, exec (write v) s = .next t ∧ t.result = .nothing ∧ Holds v true t
  status_next : ∀ {v da s}, Holds v da s →
    ∃ t a, exec status s = .next t ∧ t.result = .byte a ∧ a.getLsbD 7 = da ∧ Holds v da t
  read_next : ∀ {v da s}, Holds v da s → ∃ t, exec read s = .next t ∧ t.result = .byte v ∧ Holds v false t

/-- The source's property S2, of any such latch. -/
theorem LatchChannel.round_trip {write : Byte → Instr} {status read : Instr} {Holds : Byte → Bool → State → Prop}
    {s : State} (L : LatchChannel write status read Holds) (v : Byte) (ha : s.att = true) :
    ∃ t a b, runOps [write v, status, read, status, read] s =
        some ([.nothing, .byte a, .byte v, .byte b, .byte v], t) ∧
      a.getLsbD 7 = true ∧ b.getLsbD 7 = false := by
  obtain ⟨s1, e1, r1, h1⟩ := L.write_next v ha
  obtain ⟨s2, a, e2, r2, hset, h2⟩ := L.status_next h1
  obtain ⟨s3, e3, r3, h3⟩ := L.read_next h2
  obtain ⟨s4, b, e4, r4, hclear, h4⟩ := L.status_next h3
  obtain ⟨s5, e5, r5, -⟩ := L.read_next h4
  exact ⟨s5, a, b, by simp [runOps, e1, e2, e3, e4, e5, r1, r2, r3, r4, r5], hset, hclear⟩

section Channel2
variable {latch : Ula → Byte} {flag : Ula → Bool} {v : Byte} {da : Bool} {s : State}

theorem Channel2Holds.of_busWrite {u : Ula} (ha : s.att = true) (hl : latch (withDerivedLines u) = v)
    (hf : flag (withDerivedLines u) = da) :
    (busWrite u s).result = .nothing ∧ Channel2Holds latch flag v da (busWrite u s) := by
  rw [busWrite_of_att u ha]
  exact ⟨rfl, ha, hl, hf⟩

theorem Channel2Holds.of_busRead {r : Byte × Ula} {b : Byte} (ha : s.att = true) (hb : r.1 = b)
    (hl : latch (withDerivedLines r.2) = v) (hf : flag (withDerivedLines r.2) = da) :
    (busRead r s).result = .byte b ∧ Channel2Holds latch flag v da (busRead r s) := by
  rw [busRead_of_att r ha, hb]
  exact ⟨rfl, ha, hl, hf⟩

end Channel2

/-- Parasite to host (R163, R113, R114). -/
theorem ph2_latchChannel : LatchChannel .pwD2 .hrS2 .hrD2 (Channel2Holds Ula.ph2 fun u => u.hDA.c2) where
  write_next _ ha := ⟨_, rfl, Channel2Holds.of_busWrite ha rfl rfl⟩
  status_next h :=
    have ⟨hr, h'⟩ := Channel2Holds.of_busRead h.attached rfl h.latch_eq h.flag_eq
    ⟨_, _, rfl, hr, (statusByte_da ..).trans h.flag_eq, h'⟩
  read_next h := ⟨_, rfl, Channel2Holds.of_busRead h.attached h.latch_eq h.latch_eq rfl⟩

/-- Host to parasite (R124, R153, R154). -/
theorem hp2_latchChannel : LatchChannel .hwD2 .prS2 .prD2 (Channel2Holds Ula.hp2 fun u => u.pDA.c2) where
  write_next _ ha := ⟨_, rfl, Channel2Holds.of_busWrite ha rfl rfl⟩
  status_next h :=
    have ⟨hr, h'⟩ := Channel2Holds.of_busRead h.attached rfl h.latch_eq h.flag_eq
    ⟨_, _, rfl, hr, (statusByte_da ..).trans h.flag_eq, h'⟩
  read_next h := ⟨_, rfl, Channel2Holds.of_busRead h.attached h.latch_eq h.latch_eq rfl⟩

/-! ## The statements -/

/-- Settles O22: an operation that is no release of the hold calls no `reset()`, and a release calls it once, last. -/
theorem onlyTheReleaseOfHoldCallsCpuReset : Obligations.OnlyTheReleaseOfHoldCallsCpuReset := by
  intro i s t e
  obtain ⟨new, hnew, hn⟩ | ⟨m, rfl, h⟩ := emitsNoCpuReset_or_releasesHold e
  · exact ⟨new, hnew, fun c hc => absurd hc (hn c)⟩
  · obtain ⟨hclear, new, hnew, hn⟩ := exec_release h e
    refine ⟨_, hnew, fun c hc => ?_⟩
    obtain rfl : c = s.cpu := by simpa [hn] using hc
    obtain ⟨ha, hP, -⟩ := h
    exact ⟨ha, rfl, hP, hclear, ⟨m, rfl⟩, List.getLast?_concat, count_append_cpuReset (hn s.cpu)⟩

/-- Settles O24: a FIFO that holds a byte is popped, an empty one gives HFL. -/
theorem hostFifoReadPopsOrFallsBack : Obligations.HostFifoReadPopsOrFallsBack :=
  fun _ ha =>
    ⟨fun hc => exec_read_effect ha rfl (takeFifo_eq_of_count_pos _ hc) rfl rfl rfl,
      fun hc => exec_read_effect ha rfl (takeFifo_of_count_zero hc) rfl rfl rfl, rfl⟩

/-- Settles O26: a buffer that holds a byte is popped, an empty one gives HFL. -/
theorem hostShiftReadPopsOrFallsBack : Obligations.HostShiftReadPopsOrFallsBack :=
  fun _ ha =>
    ⟨fun hc => exec_read_effect ha rfl (takePH3_eq_of_occ_pos hc) rfl rfl rfl,
      fun hc => exec_read_effect ha rfl (takePH3_of_occ_zero hc) rfl rfl rfl, rfl⟩

/-- Settles O27: the control byte is the mode flag above the flag bits, and T rises exactly when the byte names it. -/
theorem setModeControlWrite : Obligations.SetModeControlWrite := by
  intro s v ha hv
  have hbyte := controlByte_of_mode hv
  have hT : (v.extractLsb' 0 7).getLsbD 6 = v.getLsbD 6 := by simp
  have hexec : exec (.hwCtlSet (v.extractLsb' 0 7)) s =
      .next (busWrite (setControl s.params.fifoDepth (v.extractLsb' 0 7) (loadHfl v s.ula)) s) := by
    rw [exec, execHwCtlSet, hbyte]
  rw [← hT]
  refine ⟨fun h => ?_, fun h => ?_, decode_control_word (by rw [encode, hbyte])⟩
  · exact exec_write_effect ha hexec (setControl_of_no_trigger (u := loadHfl v s.ula) _ h) rfl rfl rfl
  · obtain ⟨t, e, ht⟩ :=
      exec_write_effect ha hexec (setControl_of_trigger (u := loadHfl v s.ula) _ h) rfl rfl rfl
    exact ⟨t, _, e, cleared_clearChannels _ _, ht⟩

/-- Settles O28: the write is the common frame, and the call of `reset()` comes after it, exactly on a release. -/
theorem clearModeControlWrite : Obligations.ClearModeControlWrite := by
  intro s v ha hv
  have hbyte := controlByte_of_mode hv
  have hP : (v.extractLsb' 0 7).getLsbD 5 = v.getLsbD 5 := by simp
  rw [← hP]
  refine ⟨⟨_, busWrite_effect ha rfl rfl rfl, fun h => ?_, fun h => ?_⟩, decode_control_word (by rw [encode, hbyte])⟩
  · rw [exec_hwCtlClr_of_release ⟨ha, h⟩, hbyte]
    rfl
  · rw [exec_hwCtlClr_of_no_release fun hrel => h hrel.2, hbyte]
    rfl

/-- Settles O31: the byte that fills the width completes the datum, an earlier one is stored, a later one dropped. -/
theorem hostShiftWriteByWidthAndOccupancy : Obligations.HostShiftWriteByWidthAndOccupancy := by
  intro s v ha
  refine ⟨fun hv ho => ?_, fun hv ho => ?_, fun hv ho => ?_, fun hfull => ?_, bus_busWord_eq_add v rfl⟩
  · have hlast : s.ula.hp3.occ + 1 = channelWidth s.ula.cr := by rw [ho, channelWidth_of_oneByte hv]
    rw [← shiftAppend_of_occ_zero v ho]
    exact exec_write_effect ha rfl (putHP3_of_last (u := loadHfl v s.ula) v hlast) rfl rfl rfl
  · have hroom : s.ula.hp3.occ + 1 < channelWidth s.ula.cr := by rw [ho, channelWidth_of_twoByte hv]; decide
    rw [← shiftAppend_of_occ_zero v ho]
    exact exec_write_effect ha rfl (putHP3_of_not_last (u := loadHfl v s.ula) v hroom) rfl rfl rfl
  · have hlast : s.ula.hp3.occ + 1 = channelWidth s.ula.cr := by rw [ho, channelWidth_of_twoByte hv]
    rw [← shiftAppend_of_occ_one v ho]
    exact exec_write_effect ha rfl (putHP3_of_last (u := loadHfl v s.ula) v hlast) rfl rfl rfl
  · exact exec_write_effect ha rfl (putHP3_of_full (u := loadHfl v s.ula) v hfull) rfl rfl rfl

/-- Settles O53: each direction of channel 2 is a latch with a data flag. -/
theorem channelTwoRoundTrip : Obligations.ChannelTwoRoundTrip :=
  fun _ v ha => ⟨ph2_latchChannel.round_trip v ha, hp2_latchChannel.round_trip v ha⟩

/-- Settles O57: the release calls `reset()` once and leaves P clear, and with P clear nothing is released. -/
theorem releasingHoldResetsExactlyOnce : Obligations.ReleasingHoldResetsExactlyOnce := by
  intro s m n ha hm _
  refine ⟨fun hP => ?_, fun hP => ?_⟩
  · have e := exec_hwCtlClr_of_release (m := m) ⟨ha, hP, hm⟩
    obtain ⟨hclear, new, hnew, hn⟩ := exec_release ⟨ha, hP, hm⟩ e
    have e' := exec_hwCtlClr_of_no_release (not_releasesHold_of_clear n hclear)
    refine ⟨_, _, e, ?_, e', (busWrite_emitsNoCpuReset _ _).count_eq _⟩
    rw [hnew, List.count_append, count_append_cpuReset (hn s.cpu)]
  · have e := exec_hwCtlClr_of_no_release (not_releasesHold_of_clear m hP)
    exact ⟨_, e, (busWrite_emitsNoCpuReset _ _).count_eq _⟩

/-- Settles O25: both reads are the common read frame around the latch, the flags written unconditionally. -/
theorem hostLatchReadsReturnTheLatch : Obligations.HostLatchReadsReturnTheLatch :=
  fun _ ha => ⟨exec_read_effect ha rfl rfl rfl rfl rfl, exec_read_effect ha rfl rfl rfl rfl rfl, rfl, rfl⟩

/-- Settles O29: the three writes are the common write frame around the store, whatever the latch held. -/
theorem hostLatchWritesStoreAndFlag : Obligations.HostLatchWritesStoreAndFlag :=
  fun _ v ha => ⟨exec_write_effect ha rfl rfl rfl rfl rfl, exec_write_effect ha rfl rfl rfl rfl rfl,
    exec_write_effect ha rfl rfl rfl rfl rfl,
    bus_busWord_eq_add v rfl, bus_busWord_eq_add v rfl, bus_busWord_eq_add v rfl⟩

/-- Settles O30: the three writes are the common write frame around the fallback latch. -/
theorem ignoredHostWritesLoadHflOnly : Obligations.IgnoredHostWritesLoadHflOnly :=
  fun _ v ha => ⟨exec_write_effect ha rfl rfl rfl rfl rfl, exec_write_effect ha rfl rfl rfl rfl rfl,
    exec_write_effect ha rfl rfl rfl rfl rfl,
    bus_busWord_eq_add v rfl, bus_busWord_eq_add v rfl, bus_busWord_eq_add v rfl⟩

end Sys2Proof.Machine

/-! PROOFS. The parasite's accesses (`41_parasite_access.md`): the effect of every data access and of the ignored
writes, and runs of channel-1 writes and reads, which give the bytes back in order. -/

namespace Sys2Proof.Machine

open Sys2Proof.Config

/-! ## The shift buffers (R156, R165) -/

theorem takeHP3_eq_of_occ_pos {u : Ula} (h : 0 < u.hp3.occ) :
    takeHP3 u = (u.hp3.slot0,
      { u with
        hp3 := shiftPop u.hp3
        pDA := { u.pDA with c3 := u.pDA.c3 && decide (1 < u.hp3.occ) }
        hSA := { u.hSA with c3 := true } }) := by
  rw [takeHP3, if_pos h, ← flag_after_read _ h]
  split <;> rfl

section ParasiteShiftWrite
variable {u : Ula} {b : ShiftBuffer} (v : Byte)

/-- The byte that fills the active width completes the datum. -/
theorem putPH3_of_last (h : u.ph3.occ + 1 = channelWidth u.cr) (hb : shiftAppend v u.ph3 = b) :
    putPH3 v u = { u with
      ph3 := b
      hDA := { u.hDA with c3 := true }
      pSA := { u.pSA with c3 := false } } := by
  rw [putPH3, if_pos (by omega), if_pos h.ge, hb]

theorem putPH3_of_not_last (h : u.ph3.occ + 1 < channelWidth u.cr) (hb : shiftAppend v u.ph3 = b) :
    putPH3 v u = { u with ph3 := b } := by
  rw [putPH3, if_pos (by omega), if_neg (by omega), hb]

theorem putPH3_of_full (h : channelWidth u.cr ≤ u.ph3.occ) : putPH3 v u = u := if_neg h.not_gt

end ParasiteShiftWrite

/-! ## The FIFO write (R161) -/

section FifoWrite
variable {n : Nat} {u : Ula} (v : Byte)

theorem putFifo_of_room (h : u.ph1.count < n) :
    putFifo n v u = { u with
      ph1 := fifoPush n v u.ph1
      hDA := { u.hDA with c1 := true }
      pSA := { u.pSA with c1 := u.pSA.c1 && decide (u.ph1.count + 1 ≠ n) } } := by
  rw [putFifo, if_pos h]
  by_cases hlast : u.ph1.count + 1 = n <;> simp [hlast]

theorem putFifo_of_full (h : n ≤ u.ph1.count) : putFifo n v u = u := if_neg h.not_gt

end FifoWrite

/-! ## Runs of operations -/

theorem runOps_cons {i : Instr} {is : List Instr} {s t r : State} {rs : List Result} (e : exec i s = .next t)
    (h : runOps is t = some (rs, r)) : runOps (i :: is) s = some (t.result :: rs, r) := by
  simp [runOps, e, h]

theorem runOps_cons_some {i : Instr} {is : List Instr} {s r : State} {rs : List Result}
    (h : runOps (i :: is) s = some (rs, r)) :
    ∃ t rs', exec i s = .next t ∧ runOps is t = some (rs', r) ∧ rs = t.result :: rs' := by
  unfold runOps at h
  split at h
  next t e =>
    obtain ⟨⟨rs', r'⟩, hrun, heq⟩ := Option.map_eq_some_iff.mp h
    obtain ⟨rfl, rfl⟩ := Prod.mk.inj heq
    exact ⟨t, rs', e, hrun, rfl⟩
  all_goals cases h

/-- A run of one list of operations and, from where it ends, of another is the run of both. -/
theorem runOps_append {is js : List Instr} {s t r : State} {rs rs' : List Result} (h : runOps is s = some (rs, t))
    (h' : runOps js t = some (rs', r)) : runOps (is ++ js) s = some (rs ++ rs', r) := by
  induction is generalizing s rs with
  | nil =>
    obtain ⟨rfl, rfl⟩ := Prod.mk.inj (Option.some.inj h)
    exact h'
  | cons i is ih =>
    obtain ⟨u, rest, e, hrest, rfl⟩ := runOps_cons_some h
    exact runOps_cons e (ih hrest)

/-! ## The FIFO from writes to reads -/

/-- An attached block of both invariants and capacity `n`, whose FIFO holds the bytes `q`, oldest first. -/
structure FifoHolds (n : Nat) (q : List Byte) (s : State) : Prop where
  inv : StateInv s
  flags : FlagsAgree s.params.fifoDepth s.ula
  attached : s.att = true
  depth : s.params.fifoDepth = n
  contents : fifoContents n s.ula.ph1 = q

section FifoRuns
variable {n : Nat} {q : List Byte} {s : State}

theorem FifoHolds.count_eq (h : FifoHolds n q s) : s.ula.ph1.count = q.length := by
  rw [← h.contents, fifoContents_length]

/-- A bus transaction keeps everything `FifoHolds` says but the contents. -/
theorem FifoHolds.of_exec {q' : List Byte} {i : Instr} {side : Side} {direction : Direction} {a : Selector} {t : State}
    (h : FifoHolds n q s) (hp : performerOf i = .bus side direction a) (e : exec i s = .next t)
    (hc : fifoContents t.params.fifoDepth t.ula.ph1 = q') : FifoHolds n q' t := by
  obtain ⟨hparams, hatt, -⟩ := exec_bus_sameSession hp e
  have hdepth : t.params.fifoDepth = n := by rw [hparams, h.depth]
  refine ⟨exec_stateInv h.inv e, exec_flagsAgree h.inv h.flags ?_ e, hatt.trans h.attached, hdepth, hdepth ▸ hc⟩
  rintro tag aux block rfl
  cases hp

theorem FifoHolds.write (h : FifoHolds n q s) (v : Byte) :
    ∃ t, exec (.pwD1 v) s = .next t ∧ t.result = .nothing ∧ FifoHolds n (if q.length < n then q ++ [v] else q) t := by
  obtain ⟨-, hw, -⟩ := h.inv
  obtain ⟨t, e, hc⟩ := exec_pwD1_contents v hw h.flags h.attached
  rw [h.depth, h.contents] at hc
  have hresult : t.result = .nothing := by
    obtain rfl := Host.Outcome.next.inj e
    rw [busWrite_of_att _ h.attached]
  exact ⟨t, e, hresult, h.of_exec rfl e hc⟩

theorem FifoHolds.read {v : Byte} (h : FifoHolds n (v :: q) s) :
    ∃ t, exec .hrD1 s = .next t ∧ t.result = .byte v ∧ FifoHolds n q t := by
  obtain ⟨-, hw, -⟩ := h.inv
  obtain ⟨t, e, hcons, -⟩ := exec_hrD1_contents hw h.attached
  obtain ⟨hresult, hc⟩ := hcons v q (by rw [h.depth, h.contents])
  exact ⟨t, e, hresult, h.of_exec rfl e hc⟩

/-- Writes for which there is room append their bytes. -/
theorem FifoHolds.run_writes {bytes : List Byte} (h : FifoHolds n q s) (hroom : q.length + bytes.length ≤ n) :
    ∃ t, runOps (bytes.map Instr.pwD1) s = some (List.replicate bytes.length Result.nothing, t) ∧
      FifoHolds n (q ++ bytes) t := by
  induction bytes generalizing q s with
  | nil => exact ⟨s, rfl, by simpa using h⟩
  | cons v bytes ih =>
    rw [List.length_cons] at hroom
    obtain ⟨t, e, hresult, ht⟩ := h.write v
    rw [if_pos (show q.length < n by omega)] at ht
    obtain ⟨r, hrun, hr⟩ := ih ht (by simp; omega)
    have hall := runOps_cons e hrun
    rw [hresult] at hall
    exact ⟨r, hall, by simpa using hr⟩

/-- As many reads as there are bytes return them, oldest first. -/
theorem FifoHolds.run_reads (h : FifoHolds n q s) :
    ∃ t, runOps (List.replicate q.length Instr.hrD1) s = some (q.map Result.byte, t) ∧ FifoHolds n [] t := by
  induction q generalizing s with
  | nil => exact ⟨s, rfl, h⟩
  | cons v q ih =>
    obtain ⟨t, e, hresult, ht⟩ := h.read
    obtain ⟨r, hrun, hr⟩ := ih ht
    have hall := runOps_cons e hrun
    rw [hresult] at hall
    exact ⟨r, hall, hr⟩

/-- A write to a full FIFO returns nothing and leaves the bytes as they are (R161). -/
theorem FifoHolds.run_dropped_write (h : FifoHolds n q s) (hfull : q.length = n) (v : Byte) :
    ∃ t, runOps [Instr.pwD1 v] s = some ([Result.nothing], t) ∧ FifoHolds n q t := by
  obtain ⟨t, e, hresult, ht⟩ := h.write v
  rw [if_neg hfull.not_lt] at ht
  have hrun : runOps [] t = some ([], t) := rfl
  exact ⟨t, by rw [runOps_cons e hrun, hresult], ht⟩

end FifoRuns

/-! ## The statements -/

/-- Settles O34: a buffer that holds a byte is popped, an empty one gives PFL. -/
theorem parasiteShiftReadPopsOrFallsBack : Obligations.ParasiteShiftReadPopsOrFallsBack :=
  fun _ ha =>
    ⟨fun hc => exec_read_effect ha rfl (takeHP3_eq_of_occ_pos hc) rfl rfl rfl,
      fun hc => exec_read_effect ha rfl (takeHP3_of_occ_zero hc) rfl rfl rfl, rfl⟩

/-- Settles O36: the FIFO with room is pushed, the full one left alone. -/
theorem parasiteFifoWritePushesOrDrops : Obligations.ParasiteFifoWritePushesOrDrops :=
  fun s v ha =>
    ⟨fun hroom => exec_write_effect ha rfl (putFifo_of_room (u := loadPfl v s.ula) v hroom) rfl rfl rfl,
      fun hfull => exec_write_effect ha rfl (putFifo_of_full (u := loadPfl v s.ula) v hfull) rfl rfl rfl,
      bus_busWord_eq_add v rfl⟩

/-- Settles O38: the byte that fills the width completes the datum, an earlier one is stored, a later one dropped. -/
theorem parasiteShiftWriteByWidthAndOccupancy : Obligations.ParasiteShiftWriteByWidthAndOccupancy := by
  intro s v ha
  refine ⟨fun hv ho => ?_, fun hv ho => ?_, fun hv ho => ?_, fun hfull => ?_, bus_busWord_eq_add v rfl⟩
  · have hlast : s.ula.ph3.occ + 1 = channelWidth s.ula.cr := by rw [ho, channelWidth_of_oneByte hv]
    have hput := putPH3_of_last (u := loadPfl v s.ula) v hlast (shiftAppend_of_occ_zero v ho)
    exact exec_write_effect ha rfl hput rfl rfl rfl
  · have hroom : s.ula.ph3.occ + 1 < channelWidth s.ula.cr := by rw [ho, channelWidth_of_twoByte hv]; decide
    have hput := putPH3_of_not_last (u := loadPfl v s.ula) v hroom (shiftAppend_of_occ_zero v ho)
    exact exec_write_effect ha rfl hput rfl rfl rfl
  · have hlast : s.ula.ph3.occ + 1 = channelWidth s.ula.cr := by rw [ho, channelWidth_of_twoByte hv]
    have hput := putPH3_of_last (u := loadPfl v s.ula) v hlast (shiftAppend_of_occ_one v ho)
    exact exec_write_effect ha rfl hput rfl rfl rfl
  · exact exec_write_effect ha rfl (putPH3_of_full (u := loadPfl v s.ula) v hfull) rfl rfl rfl

/-- Settles O52: the writes append the bytes, a further one to a full FIFO is dropped, and the reads take them from the
front. -/
theorem fifoReturnsWhatWasWrittenInOrder : Obligations.FifoReturnsWhatWasWrittenInOrder := by
  intro s bytes hinv hflags ha hempty hlen
  have h : FifoHolds s.params.fifoDepth [] s := ⟨hinv, hflags, ha, rfl, fifoContents_of_count_zero hempty⟩
  obtain ⟨w, hwrites, hw⟩ := h.run_writes (bytes := bytes) (by simpa using hlen)
  refine ⟨?_, fun hfull v => ?_⟩
  · obtain ⟨t, hreads, ht⟩ := hw.run_reads
    exact ⟨t, runOps_append hwrites hreads, ht.count_eq⟩
  · obtain ⟨d, hdropped, hd⟩ := hw.run_dropped_write hfull v
    obtain ⟨t, hreads, ht⟩ := hd.run_reads
    rw [List.replicate_succ']
    exact ⟨t, runOps_append (runOps_append hwrites hdropped) hreads, ht.count_eq⟩

/-- Settles O33: the three reads are the common read frame around the latch, the flags written unconditionally. -/
theorem parasiteLatchReadsReturnTheLatch : Obligations.ParasiteLatchReadsReturnTheLatch :=
  fun _ ha => ⟨exec_read_effect ha rfl rfl rfl rfl rfl, exec_read_effect ha rfl rfl rfl rfl rfl,
    exec_read_effect ha rfl rfl rfl rfl rfl, rfl, rfl, rfl⟩

/-- Settles O35: the four writes are the common write frame around the fallback latch. -/
theorem ignoredParasiteWritesLoadPflOnly : Obligations.IgnoredParasiteWritesLoadPflOnly :=
  fun _ v ha => ⟨exec_write_effect ha rfl rfl rfl rfl rfl, exec_write_effect ha rfl rfl rfl rfl rfl,
    exec_write_effect ha rfl rfl rfl rfl rfl, exec_write_effect ha rfl rfl rfl rfl rfl,
    bus_busWord_eq_add v rfl, bus_busWord_eq_add v rfl, bus_busWord_eq_add v rfl, bus_busWord_eq_add v rfl⟩

/-- Settles O37: the two writes are the common write frame around the store, whatever the latch held. -/
theorem parasiteLatchWritesStoreAndFlag : Obligations.ParasiteLatchWritesStoreAndFlag :=
  fun _ v ha => ⟨exec_write_effect ha rfl rfl rfl rfl rfl, exec_write_effect ha rfl rfl rfl rfl rfl,
    bus_busWord_eq_add v rfl, bus_busWord_eq_add v rfl⟩

end Sys2Proof.Machine

/-! PROOFS. The management events of `42_dispatch_and_governor.md`: the catalog lookup, the configurations LOADCFG makes
of its sections, detaching, the selection that SELECT stores and ATTACH reads, and every path of ATTACH. -/

namespace Sys2Proof.Machine

open Sys2Proof.Config

/-! ## The catalog (R191) -/

section Catalog
variable {catalog : List CpuTypeDescriptor} {name : String}

theorem findCpuType_some {c : CpuTypeDescriptor} (h : findCpuType catalog name = some c) :
    c ∈ catalog ∧ c.name = name :=
  ⟨List.mem_of_find?_eq_some h, by simpa using List.find?_some h⟩

theorem findCpuType_eq_none_iff : findCpuType catalog name = none ↔ ∀ c ∈ catalog, c.name ≠ name := by
  simp [findCpuType]

end Catalog

/-! ## The configurations of the sections (R192) -/

section Sections
variable {catalog : List CpuTypeDescriptor} {sec : ConfigSection} {source : List ConfigSection}

theorem sectionConfiguration_eq_none_iff : sectionConfiguration catalog sec = none ↔ sec.speed = none := by
  cases h : sec.speed <;> simp [sectionConfiguration, h]

/-- The keys of a section that becomes a configuration, the absent ones with their defaults. -/
theorem sectionConfiguration_some {cfg : TubeConfiguration} (h : sectionConfiguration catalog sec = some cfg) :
    cfg.name = sec.name.getD "" ∧ cfg.romsize = sec.romsize.getD 0 ∧ cfg.bootrom = sec.bootrom.getD "" ∧
      sec.speed = some cfg.speed ∧ cfg.cpu = sectionCpu catalog sec := by
  cases hspeed : sec.speed with
  | none => simp [sectionConfiguration_eq_none_iff.mpr hspeed] at h
  | some speed =>
    simp only [sectionConfiguration, hspeed] at h
    obtain rfl := Option.some.inj h
    exact ⟨rfl, rfl, rfl, rfl, rfl⟩

theorem sectionCpu_of_keys {name cpu : String} (hname : sec.name = some name) (hcpu : sec.cpu = some cpu) :
    sectionCpu catalog sec = findCpuType catalog cpu := by
  simp [sectionCpu, hname, hcpu]

theorem sectionCpu_of_missing_key (h : sec.name = none ∨ sec.cpu = none) : sectionCpu catalog sec = none := by
  obtain h | h := h
  · simp [sectionCpu, h]
  · cases hname : sec.name <;> simp [sectionCpu, h, hname]

/-- One section without `speed` refuses the whole source (U28). -/
theorem sectionConfigurations_eq_none_iff :
    sectionConfigurations catalog source = none ↔ ∃ sec ∈ source, sec.speed = none := by
  induction source with
  | nil => simp [sectionConfigurations]
  | cons sec rest ih =>
    rw [List.exists_mem_cons_iff, ← ih, ← sectionConfiguration_eq_none_iff (catalog := catalog),
      sectionConfigurations]
    cases sectionConfiguration catalog sec <;> cases sectionConfigurations catalog rest <;> simp

theorem sectionConfigurations_some {configs : List TubeConfiguration}
    (h : sectionConfigurations catalog source = some configs) :
    List.Forall₂ (fun sec cfg => sectionConfiguration catalog sec = some cfg) source configs := by
  induction source generalizing configs with
  | nil =>
    obtain rfl := Option.some.inj h
    exact .nil
  | cons sec rest ih =>
    rw [sectionConfigurations] at h
    split at h
    next cfg cfgs hcfg hrest =>
      obtain rfl := Option.some.inj h
      exact .cons hcfg (ih hrest)
    next => cases h

/-- The configuration at an index is that of the section at the same index. -/
theorem sectionConfigurations_getElem? {configs : List TubeConfiguration} {k : Nat}
    (h : sectionConfigurations catalog source = some configs) (hk : source[k]? = some sec) :
    ∃ cfg, configs[k]? = some cfg ∧ sectionConfiguration catalog sec = some cfg := by
  obtain ⟨hlen, hget⟩ := List.forall₂_iff_get.mp (sectionConfigurations_some h)
  obtain ⟨hlt, rfl⟩ := List.getElem?_eq_some_iff.mp hk
  exact ⟨configs[k]'(hlen ▸ hlt), List.getElem?_eq_getElem _, hget k hlt (hlen ▸ hlt)⟩

theorem loadConfigurations_of_ne_nil (p : Params) (h : source ≠ []) :
    loadConfigurations p source = sectionConfigurations p.catalog source := by
  cases source with
  | nil => exact absurd rfl h
  | cons sec rest => rfl

end Sections

section Loadcfg
variable {s : State} {source : List ConfigSection}

theorem exec_loadcfg_of_some {configs : List TubeConfiguration}
    (h : loadConfigurations s.params source = some configs) :
    exec (.loadcfg source) s = .next { s with configs := configs, result := .configurations configs } := by
  simp only [exec, execLoadcfg, h]

theorem exec_loadcfg_of_none (h : loadConfigurations s.params source = none) :
    exec (.loadcfg source) s = .refused .speedMissing := by
  simp only [exec, execLoadcfg, h]

end Loadcfg

/-! ## Detaching (R197) -/

/-- The events of a detach: the fall of an asserted host line (R197, R248). -/
def hostFall (s : State) : List Event := if s.att = true ∧ s.ula.hirq = true then [.hostIrq false] else []

theorem hostFall_of_detached {s : State} (h : s.att = false) : hostFall s = [] := by
  simp [hostFall, h]

theorem detach_eq (s : State) :
    detach s = { s with ula := linesLow s.ula, att := false, events := s.events ++ hostFall s } := by
  cases ha : s.att <;> cases hh : s.ula.hirq <;> simp [detach, State.hostIrqLine, hostFall, ha, hh]

theorem detachIfAttached_of_att {s : State} (h : s.att = true) : detachIfAttached s = detach s := if_pos h

theorem detachIfAttached_of_detached {s : State} (h : s.att = false) : detachIfAttached s = s :=
  if_neg (by simp [h])

/-- What the first line of ATTACH leaves, attached before or not. -/
theorem detachIfAttached_eq (s : State) :
    detachIfAttached s = { s with
      ula := (detachIfAttached s).ula, att := false, events := s.events ++ hostFall s } := by
  cases h : s.att with
  | true =>
    rw [detachIfAttached_of_att h, detach_eq]
  | false =>
    rw [detachIfAttached_of_detached h, hostFall_of_detached h, List.append_nil, ← h]

@[simp] theorem detachIfAttached_sel (s : State) : (detachIfAttached s).sel = s.sel := by
  rw [detachIfAttached_eq]

/-! ## The selection (R193) -/

theorem deselect_of_no_selection {s : State} (h : s.sel = none) : s.deselect = s := by
  rw [State.deselect, ← h]

section Selection
variable {configs : List TubeConfiguration} {k : Nat} {cfg : TubeConfiguration} {cpu : CpuTypeDescriptor}

theorem usableConfiguration_of_usable (h : configs[k]? = some cfg) (hcpu : cfg.cpu = some cpu) :
    usableConfiguration configs (some k) = some (cfg, cpu) := by
  simp [usableConfiguration, h, hcpu]

theorem usableConfiguration_of_unusable
    (h : configs[k]? = none ∨ ∃ cfg, configs[k]? = some cfg ∧ cfg.cpu = none) :
    usableConfiguration configs (some k) = none := by
  obtain h | ⟨cfg, h, hcpu⟩ := h
  · simp [usableConfiguration, h]
  · simp [usableConfiguration, h, hcpu]

/-- SELECT accepts exactly the entries that ATTACH can use. -/
theorem selectableIndex_ofNat (configs : List TubeConfiguration) (k : Nat) :
    selectableIndex configs (some (.ofNat k)) =
      if (usableConfiguration configs (some k)).isSome then some k else none := by
  cases h : configs[k]? <;> simp [selectableIndex, usableConfiguration, h]

/-- The operands that R193 names as disabling the coprocessor. -/
theorem selectableIndex_of_disabling {index : Option Int}
    (h : index = none ∨ ∃ z, index = some z ∧
      (z < 0 ∨ (configs.length : Int) ≤ z ∨ ∃ cfg, configs[z.toNat]? = some cfg ∧ cfg.cpu = none)) :
    selectableIndex configs index = none := by
  obtain rfl | ⟨z, rfl, h⟩ := h
  · rfl
  · cases z with
    | negSucc k => rfl
    | ofNat k =>
      have unusable : configs[k]? = none ∨ ∃ cfg, configs[k]? = some cfg ∧ cfg.cpu = none := by
        obtain h | h | h := h
        · exact absurd h (Int.natCast_nonneg k).not_gt
        · exact .inl (List.getElem?_eq_none (Int.ofNat_le.mp h))
        · exact .inr h
      rw [selectableIndex_ofNat, usableConfiguration_of_unusable unusable]
      rfl

end Selection

section Select
variable {s : State}

theorem exec_select_usable {k : Nat} {cfg : TubeConfiguration} {cpu : CpuTypeDescriptor}
    (h : s.configs[k]? = some cfg) (hcpu : cfg.cpu = some cpu) :
    exec (.select (some (.ofNat k))) s = .next { s with sel := some k, result := .configuration (some cfg) } := by
  have hsel : selectableIndex s.configs (some (.ofNat k)) = some k := by
    rw [selectableIndex_ofNat, usableConfiguration_of_usable h hcpu]
    rfl
  simp only [exec, execSelect, hsel, h]

theorem exec_select_disabling {index : Option Int} (h : selectableIndex s.configs index = none) :
    exec (.select index) s = .next ((detach s).deselect.returning (.configuration none)) := by
  simp only [exec, execSelect, h]

end Select

/-! ## The paths of ATTACH (R195) -/

section Attach
variable {s : State} {fs : FsAnswer} {ok : Bool} {cfg : TubeConfiguration} {cpu : CpuTypeDescriptor}

theorem exec_attach_of_no_usable_selection (h : usableConfiguration s.configs s.sel = none) :
    exec (.attach fs ok) s = .next ((detachIfAttached s).deselect.returning .nothing) := by
  simp only [exec, execAttach, attachSelected, h]

theorem exec_attach_of_failed_image (h : usableConfiguration s.configs s.sel = some (cfg, cpu)) :
    exec (.attach .failed ok) s =
      .next (((detachIfAttached s).emit .logResourceError).deselect.returning .nothing) := by
  simp only [exec, execAttach, attachSelected, h, attachTo]

/-- Given an image, or none needed, the rest of ATTACH follows the initializer's answer. -/
theorem exec_attach_of_image (h : usableConfiguration s.configs s.sel = some (cfg, cpu)) (hfs : fs ≠ .failed) :
    exec (.attach fs ok) s =
      .next ((finishAttach cfg cpu ok
        ((detachIfAttached s).emit (.cpuInit cpu (bootImage fs)))).returning .nothing) := by
  cases fs with
  | failed => exact absurd rfl hfs
  | noneNeeded | bytes => simp only [exec, execAttach, attachSelected, h, attachTo]

theorem exec_attach_of_failed_init (h : usableConfiguration s.configs s.sel = some (cfg, cpu)) (hfs : fs ≠ .failed) :
    exec (.attach fs false) s =
      .next (((detachIfAttached s).emit (.cpuInit cpu (bootImage fs))).deselect.returning .nothing) :=
  exec_attach_of_image h hfs

/-- The hard reset starts from cached lines of 0, so the initializer's call is the last event (log 12). -/
theorem exec_attach_of_success (h : usableConfiguration s.configs s.sel = some (cfg, cpu)) (hfs : fs ≠ .failed) :
    exec (.attach fs true) s = .next { s with
      att := true, cpu := cpu, base := cfg.speed, mult := effectiveMultiplier s.preset cfg.speed
      ula := Ula.fresh s.params.fifoDepth
      result := .nothing
      events := s.events ++ hostFall s ++ [.cpuInit cpu (bootImage fs)] } := by
  rw [exec_attach_of_image h hfs, finishAttach, if_pos rfl, hardReset_withAttached, detachIfAttached_eq]
  rfl

end Attach

/-! ## The statements -/

/-- Settles O40: the answer is the catalog lookup's. -/
theorem findcpuIsAPureLookup : Obligations.FindcpuIsAPureLookup :=
  fun s name =>
    ⟨findCpuType s.params.catalog name, rfl, fun _ h => findCpuType_some h, findCpuType_eq_none_iff⟩

/-- Settles O41: the configurations correspond to the sections one by one, and each section's keys are read off its
configuration. -/
theorem loadcfgInstallsOneConfigurationPerSection : Obligations.LoadcfgInstallsOneConfigurationPerSection := by
  intro s source
  refine ⟨?_, fun hne hspeed => ?_, fun hmissing => ?_⟩
  · rintro rfl
    exact exec_loadcfg_of_some rfl
  · have hnone : sectionConfigurations s.params.catalog source ≠ none := fun h => by
      obtain ⟨sec, hmem, hsec⟩ := sectionConfigurations_eq_none_iff.mp h
      exact hspeed sec hmem hsec
    obtain ⟨configs, hconfigs⟩ := Option.ne_none_iff_exists'.mp hnone
    refine ⟨configs, exec_loadcfg_of_some ((loadConfigurations_of_ne_nil _ hne).trans hconfigs),
      (sectionConfigurations_some hconfigs).length_eq.symm, fun k sec hsec => ?_⟩
    obtain ⟨cfg, hget, hcfg⟩ := sectionConfigurations_getElem? hconfigs hsec
    obtain ⟨hname, hrom, hboot, hsp, hcpu⟩ := sectionConfiguration_some hcfg
    refine ⟨cfg, hget, hname, hrom, hboot, hsp, fun name cpu hn hc => ?_, fun h => ?_⟩
    · rw [hcpu, sectionCpu_of_keys hn hc]
      rfl
    · rw [hcpu, sectionCpu_of_missing_key h]
  · have hne : source ≠ [] := by
      rintro rfl
      simp at hmissing
    exact exec_loadcfg_of_none
      ((loadConfigurations_of_ne_nil _ hne).trans (sectionConfigurations_eq_none_iff.mpr hmissing))

/-- Settles O42: a usable index is stored; every operand R193 names otherwise detaches and deselects. -/
theorem selectStoresAUsableIndexOrDetaches : Obligations.SelectStoresAUsableIndexOrDetaches := by
  refine fun s => ⟨fun k cfg cpu => exec_select_usable, fun index h => ?_⟩
  rw [exec_select_disabling (selectableIndex_of_disabling h), detach_eq]
  rfl

/-- Settles O43: both answers that are no failure give the initializer its image. -/
theorem attachOfAUsableSelectionSucceeds : Obligations.AttachOfAUsableSelectionSucceeds := by
  intro s k cfg cpu fs image hsel hcfg hcpu hfs
  have husable : usableConfiguration s.configs s.sel = some (cfg, cpu) :=
    hsel ▸ usableConfiguration_of_usable hcfg hcpu
  obtain ⟨rfl, rfl⟩ | ⟨bytes, rfl, rfl⟩ := hfs
  · exact exec_attach_of_success husable nofun
  · exact exec_attach_of_success husable nofun

/-- Settles O44: each failing path starts from what `detachIfAttached` leaves. -/
theorem attachFailuresLeaveTheBlockDetached : Obligations.AttachFailuresLeaveTheBlockDetached := by
  intro s d
  have hd : d = detachIfAttached s := by
    cases h : s.att <;> simp [d, detachIfAttached, detach_eq, hostFall, linesLow, h]
  rw [hd]
  refine ⟨fun hsel fs ok => ?_, fun k cfg cpu hsel hcfg hcpu => ?_⟩
  · rw [exec_attach_of_no_usable_selection (by rw [hsel]; rfl), deselect_of_no_selection (by simpa using hsel)]
    rfl
  · have husable : usableConfiguration s.configs s.sel = some (cfg, cpu) :=
      hsel ▸ usableConfiguration_of_usable hcfg hcpu
    exact ⟨fun ok => exec_attach_of_failed_image husable, exec_attach_of_failed_init husable nofun,
      fun bytes => exec_attach_of_failed_init husable nofun⟩

/-- Settles O58: the failed attach leaves a detached block without selection, whose reads and attaches are known. -/
theorem missingBootRomLeavesTheSessionRunning : Obligations.MissingBootRomLeavesTheSessionRunning := by
  intro s k cfg cpu ok hdet hcfg hcpu
  have hselect := exec_select_usable hcfg hcpu
  have hattach := exec_attach_of_failed_image (ok := ok)
    (s := { s with sel := some k, result := .configuration (some cfg) }) (usableConfiguration_of_usable hcfg hcpu)
  rw [detachIfAttached_of_detached (by exact hdet)] at hattach
  refine ⟨_, runOps_cons hselect (runOps_cons hattach rfl), hdet, rfl, rfl, fun i side address h => ?_,
    fun fs again => ?_⟩
  · exact ⟨_, exec_read_of_detached h hdet, rfl⟩
  · refine ⟨_, exec_attach_of_no_usable_selection rfl, ?_⟩
    rw [detachIfAttached_of_detached (by exact hdet)]
    exact ⟨hdet, rfl⟩

/-- Settles O45: a selection that ATTACH cannot use only detaches and deselects. -/
theorem attachOfAVanishedSelectionDetaches : Obligations.AttachOfAVanishedSelectionDetaches := by
  intro s k fs ok hsel hvanished
  refine ⟨_, exec_attach_of_no_usable_selection (hsel ▸ usableConfiguration_of_unusable hvanished), ?_⟩
  rw [detachIfAttached_eq]
  exact ⟨rfl, rfl, rfl⟩

/-- Settles O46: the multiplier is recomputed from the new preset exactly while attached. -/
theorem speedStoresPresetAndRecomputes : Obligations.SpeedStoresPresetAndRecomputes := by
  refine fun s p => ⟨fun ha => ?_, fun hd => ?_⟩
  · simp [exec, execSpeed, effectiveMultiplier, ha]
  · simp [exec, execSpeed, hd]

end Sys2Proof.Machine

/-! PROOFS. Saving and loading (`43_state_codec.md`): what SAVE returns, what each layout of a LOAD comes to, what the
loaded state becomes attached and detached, and the round trip from SAVE to LOAD. -/

namespace Sys2Proof.Machine

open Sys2Proof.Config

/-! ## SAVE (R221) -/

theorem exec_save (s : State) :
    exec .save s = .next { s with
      result := .saved (2#8 :: codec.auxByte s.aux :: codec.encode2 s.params.fifoDepth s.ula) } := rfl

/-! ## The two layouts of a LOAD (R222, R225, U18) -/

section Layouts
variable {s : State} {tag : Byte} {block : List Byte}

theorem exec_load_current (aux : Byte) (h : block.length = codec.blockLength s.params.fifoDepth) :
    exec (.load 2#8 aux block) s =
      finishLoad (codec.decode2 s.params.fifoDepth block) (codec.auxBit aux) s := by
  simp only [exec, execLoad, if_true, if_pos h]

theorem exec_load_current_of_length_ne (aux : Byte) (h : block.length ≠ codec.blockLength s.params.fifoDepth) :
    exec (.load 2#8 aux block) s = .refused (.blockLength block.length) := by
  simp only [exec, execLoad, if_true, if_neg h]

theorem exec_load_legacy (aux : Byte) (htag : tag ≠ 2#8) (h : block.length = codec.legacyLength s.params.fifoDepth) :
    exec (.load tag aux block) s = finishLoad (codec.legacyFields s.params.fifoDepth block).widen s.aux s := by
  simp only [exec, execLoad, if_neg htag, if_pos h]

theorem exec_load_legacy_of_length_ne (aux : Byte) (htag : tag ≠ 2#8)
    (h : block.length ≠ codec.legacyLength s.params.fifoDepth) :
    exec (.load tag aux block) s = .refused (.blockLength block.length) := by
  simp only [exec, execLoad, if_neg htag, if_neg h]

end Layouts

/-! ## The loaded state (R222, R244, R248) -/

section Loaded
variable {u : Ula} {s : State}

theorem finishLoad_of_att (aux : Bool) (hw : u.WellTyped s.params.fifoDepth) (ha : s.att = true) :
    finishLoad u aux s = .next { s with
      ula := linesFrom u, aux := aux, result := .nothing
      events := s.events ++ changeEvents s.cpu u (linesFrom u) } := by
  rw [finishLoad, if_pos hw, updateInts_of_att (s := { s with ula := u, aux := aux }) ha,
    withDerivedLines_eq_linesFrom, lineEvents_eq_changeEvents]
  rfl

theorem finishLoad_of_detached (aux : Bool) (hw : u.WellTyped s.params.fifoDepth) (ha : s.att = false) :
    finishLoad u aux s = .next { s with ula := u, aux := aux, result := .nothing } := by
  rw [finishLoad, if_pos hw, updateInts_of_detached (s := { s with ula := u, aux := aux }) ha]
  rfl

theorem finishLoad_of_not_wellTyped (aux : Bool) (hw : ¬ u.WellTyped s.params.fifoDepth) :
    finishLoad u aux s = .refused .impossibleFields :=
  if_neg hw

/-- A completed load establishes the invariant, whatever the state before: a loaded state of the type has an index below
`N`, and the recompute of an attached block brings its lines to their levels. -/
theorem finishLoad_stateInv {aux : Bool} {t : State} (e : finishLoad u aux s = .next t) : StateInv t := by
  obtain ⟨hw, hcases⟩ := finishLoad_next e
  have hn : 1 ≤ s.params.fifoDepth := by
    obtain ⟨-, hhead, -⟩ := hw
    omega
  obtain ⟨-, rfl⟩ | ⟨ha, rfl⟩ := hcases
  · exact ⟨hn, withDerivedLines_wellTyped hw, fun _ => linesCurrent_withDerivedLines u⟩
  · exact ⟨hn, hw, fun h => by cases ha.symm.trans h⟩

theorem finishLoad_result {aux : Bool} {t : State} (e : finishLoad u aux s = .next t) : t.result = .nothing := by
  obtain ⟨-, ⟨-, rfl⟩ | ⟨-, rfl⟩⟩ := finishLoad_next e <;> rfl

end Loaded

/-! ## The round trip (R223, R226, V14 a) -/

section RoundTrip
variable {s : State}

/-- Lines already at their levels are loaded and recomputed without a change, so without an event (R247). -/
theorem finishLoad_own_state (h : StateInv s) : finishLoad s.ula s.aux s = .next { s with result := .nothing } := by
  obtain ⟨-, hw, hl⟩ := h
  cases ha : s.att with
  | true => simp [finishLoad_of_att s.aux hw ha, linesFrom_of_linesCurrent (hl ha), changeEvents, ha]
  | false => simp [finishLoad_of_detached s.aux hw ha, ha]

theorem exec_load_of_saved (h : StateInv s) :
    exec (.load 2#8 (codec.auxByte s.aux) (codec.encode2 s.params.fifoDepth s.ula)) s =
      .next { s with result := .nothing } := by
  have ⟨_, hw, _⟩ := h
  rw [exec_load_current _ (codec_encode2_length _ _), codec_decode2_encode2 hw, codec_auxBit_auxByte,
    finishLoad_own_state h]

/-- R226 has the LOAD follow the SAVE at once, so the saved bytes are still the state's result when it begins. -/
theorem exec_load_of_save_result (h : StateInv s) (hr : s.result = .nothing) (saved : Result) :
    exec (.load 2#8 (codec.auxByte s.aux) (codec.encode2 s.params.fifoDepth s.ula)) { s with result := saved } =
      .next s := by
  rw [exec_load_of_saved (s := { s with result := saved }) h, ← hr]

end RoundTrip

/-! ## The statements -/

/-- Settles O47, by the equation of SAVE and the fixed length of the codec's blocks. -/
theorem saveReturnsVersionAuxAndBlock : Obligations.SaveReturnsVersionAuxAndBlock :=
  fun s => ⟨_, exec_save s, rfl, fun u =>
    (codec_encode2_length _ u).trans (codec_encode2_length _ s.ula).symm⟩

/-- Settles O48: the current layout, then what the loaded state becomes attached and detached. -/
theorem loadOfTheCurrentLayoutReplacesTheState : Obligations.LoadOfTheCurrentLayoutReplacesTheState := by
  rintro s aux block _ hlen rfl hw
  rw [exec_load_current aux hlen]
  exact ⟨finishLoad_of_att _ hw, finishLoad_of_detached _ hw⟩

/-- Settles O49: the legacy layout with the AUX bit the block had, then as for the current layout. -/
theorem loadOfAnyOtherTagTakesTheLegacyLayout : Obligations.LoadOfAnyOtherTagTakesTheLegacyLayout := by
  rintro s tag aux block _ htag hlen rfl hw
  rw [exec_load_legacy aux htag hlen]
  exact ⟨finishLoad_of_att s.aux hw, finishLoad_of_detached s.aux hw⟩

/-- Settles O59: in a state of the invariant the block decodes to the state itself, whose lines are at their levels. -/
theorem loadingWhatWasSavedRestoresTheState : Obligations.LoadingWhatWasSavedRestoresTheState :=
  fun s h => ⟨_, _, exec_save s, exec_load_of_saved h⟩

/-- Settles O60: a completed legacy load leaves a state of the invariant that has returned nothing, which the round trip
gives back. -/
theorem legacyLoadSaveReloadIsIdempotent : Obligations.LegacyLoadSaveReloadIsIdempotent := by
  intro s t tag aux block htag e
  by_cases hlen : block.length = codec.legacyLength s.params.fifoDepth
  · rw [exec_load_legacy aux htag hlen] at e
    exact ⟨_, _, exec_save t, exec_load_of_save_result (finishLoad_stateInv e) (finishLoad_result e) _⟩
  · rw [exec_load_legacy_of_length_ne aux htag hlen] at e
    cases e

/-- Settles O50: by layout, the refusal of the wrong length, then that of the impossible fields. -/
theorem loadOfABadBlockIsRefused : Obligations.LoadOfABadBlockIsRefused := by
  intro s tag aux block
  refine ⟨?_, exec_load_legacy_of_length_ne aux, ?_, fun htag hlen hw => ?_⟩
  · rintro rfl hlen
    exact exec_load_current_of_length_ne aux hlen
  · rintro rfl hlen hw
    rw [exec_load_current aux hlen, finishLoad_of_not_wellTyped _ hw]
  · rw [exec_load_legacy aux htag hlen, finishLoad_of_not_wellTyped _ hw]

end Sys2Proof.Machine

/-! PROOFS. The interrupt lines and the rights of the sides (`60_exceptions.md`): the lines after every recompute, the
events of a bus transaction and of a detached block, the quiet operations, and what each side can reach. -/

namespace Sys2Proof.Machine

open Sys2Proof.Config

/-! ## What a completed operation was -/

theorem performerOf_of_agentOf {i : Instr} (h : agentOf i ≠ .environment) :
    ∃ side direction a, performerOf i = .bus side direction a := by
  cases hp : performerOf i with
  | bus side direction a => exact ⟨side, direction, a, rfl⟩
  | environment => exact absurd (by rw [agentOf, hp]) h

/-- A LOAD that completes has loaded the state of one of the two layouts (R222, R224). -/
theorem execLoad_next {tag aux : Byte} {block : List Byte} {s t : State} (e : execLoad tag aux block s = .next t) :
    ∃ u bit, finishLoad u bit s = .next t := by
  unfold execLoad at e
  split at e <;> split at e
  · exact ⟨_, _, e⟩
  · cases e
  · exact ⟨_, _, e⟩
  · cases e

/-- A LOADCFG that completes has replaced the list of configurations and returned it (R192). -/
theorem execLoadcfg_next {source : List ConfigSection} {s t : State} (e : execLoadcfg source s = .next t) :
    ∃ configs, t = { s with configs := configs, result := .configurations configs } := by
  unfold execLoadcfg at e
  split at e
  · exact ⟨_, (Host.Outcome.next.inj e).symm⟩
  · cases e

@[simp] theorem detachIfAttached_att (s : State) : (detachIfAttached s).att = false := by
  rw [detachIfAttached_eq]

/-! ## The lines after a recompute (R241 to R244) -/

section Recompute
variable {s t : State}

theorem exec_bus_linesCurrent {i : Instr} {side : Side} {direction : Direction} {a : Selector}
    (h : performerOf i = .bus side direction a) (e : exec i s = .next t) (ha : t.att = true) : LinesCurrent t.ula := by
  obtain ⟨-, hatt, -⟩ := exec_bus_sameSession h e
  rw [exec_bus_ula h e, if_pos (hatt ▸ ha)]
  exact linesCurrent_withDerivedLines _

theorem exec_hreset_linesCurrent (e : exec .hreset s = .next t) (ha : t.att = true) : LinesCurrent t.ula := by
  obtain rfl := Host.Outcome.next.inj e
  cases hs : s.att with
  | true =>
    rw [if_pos rfl, hardReset_of_att hs]
    exact linesCurrent_fresh _
  | false => simp [hs] at ha

/-- Only the path of ATTACH that ends in the hard reset leaves the block attached. -/
theorem exec_attach_linesCurrent {fs : FsAnswer} {ok : Bool} (e : exec (.attach fs ok) s = .next t)
    (ha : t.att = true) : LinesCurrent t.ula := by
  obtain rfl := Host.Outcome.next.inj e
  obtain ⟨-, e⟩ | ⟨cfg, cpu, -, ⟨-, e⟩ | ⟨-, -, e⟩ | ⟨-, -, e⟩⟩ := attachSelected_cases fs ok s <;> rw [e] at ha ⊢
  · simp at ha
  · simp at ha
  · simp at ha
  · rw [hardReset_withAttached]
    exact linesCurrent_fresh _

theorem exec_load_linesCurrent {tag aux : Byte} {block : List Byte} (e : exec (.load tag aux block) s = .next t)
    (ha : t.att = true) : LinesCurrent t.ula := by
  obtain ⟨u, bit, e⟩ := execLoad_next e
  obtain ⟨-, -, hl⟩ := finishLoad_stateInv e
  exact hl ha

end Recompute

/-! ## The events of a detached block (R248) -/

/-- What an operation on a detached block can emit: nothing, or the one report of an ATTACH (R195). -/
inductive DetachedEmission (s t : State) : Prop
  | nothing (h : t.events = s.events)
  | failedImage (h : t.events = s.events ++ [.logResourceError])
  | initializer (cpu : CpuTypeDescriptor) (image : Option (List Byte)) (h : t.events = s.events ++ [.cpuInit cpu image])

section Detached
variable {i : Instr} {s t : State}

theorem exec_bus_of_detached {side : Side} {direction : Direction} {a : Selector}
    (h : performerOf i = .bus side direction a) (hd : s.att = false) (e : exec i s = .next t) :
    DetachedEmission s t := by
  cases direction with
  | read =>
    obtain rfl := Host.Outcome.next.inj ((exec_read_of_detached h hd).symm.trans e)
    exact .nothing rfl
  | write =>
    obtain rfl := Host.Outcome.next.inj ((exec_write_of_detached h hd).symm.trans e)
    exact .nothing rfl

theorem execSelect_events_of_detached {index : Option Int} (hd : s.att = false) (e : execSelect index s = .next t) :
    t.events = s.events := by
  obtain rfl := Host.Outcome.next.inj e
  split
  · rfl
  · simp [hd]

theorem attachSelected_of_detached (fs : FsAnswer) (ok : Bool) (hd : s.att = false) :
    DetachedEmission s (attachSelected fs ok s) := by
  have hs : detachIfAttached s = s := detachIfAttached_of_detached hd
  obtain ⟨-, e⟩ | ⟨cfg, cpu, -, ⟨-, e⟩ | ⟨-, -, e⟩ | ⟨-, -, e⟩⟩ := attachSelected_cases fs ok s <;> rw [e, hs]
  · exact .nothing rfl
  · exact .failedImage rfl
  · exact .initializer cpu (bootImage fs) rfl
  · rw [hardReset_withAttached]
    exact .initializer cpu (bootImage fs) rfl

theorem finishLoad_events_of_detached {u : Ula} {bit : Bool} (hd : s.att = false) (e : finishLoad u bit s = .next t) :
    t.events = s.events := by
  obtain ⟨-, ⟨ha, -⟩ | ⟨-, rfl⟩⟩ := finishLoad_next e
  · cases hd.symm.trans ha
  · rfl

theorem exec_environment_of_detached (h : performerOf i = .environment) (hd : s.att = false)
    (e : exec i s = .next t) : DetachedEmission s t := by
  cases i with
  | hreset =>
    obtain rfl := Host.Outcome.next.inj e
    exact .nothing (by simp [hd])
  | loadcfg source =>
    obtain ⟨configs, rfl⟩ := execLoadcfg_next e
    exact .nothing rfl
  | select index => exact .nothing (execSelect_events_of_detached hd e)
  | attach fs ok =>
    obtain rfl := Host.Outcome.next.inj e
    cases attachSelected_of_detached fs ok hd with
    | nothing h => exact .nothing h
    | failedImage h => exact .failedImage h
    | initializer cpu image h => exact .initializer cpu image h
  | load tag aux block =>
    obtain ⟨u, bit, e⟩ := execLoad_next e
    exact .nothing (finishLoad_events_of_detached hd e)
  | findcpu | speed | save =>
    obtain rfl := Host.Outcome.next.inj e
    exact .nothing rfl
  | _ => cases h

theorem exec_of_detached (hd : s.att = false) (e : exec i s = .next t) : DetachedEmission s t := by
  cases h : performerOf i with
  | bus side direction a => exact exec_bus_of_detached h hd e
  | environment => exact exec_environment_of_detached h hd e

/-- Neither the log message nor the initializer's call is a call of a line's setter or of `reset()`. -/
theorem DetachedEmission.no_setter_call (d : DetachedEmission s t) :
    ∃ new, t.events = s.events ++ new ∧
      ∀ c b, Event.hostIrq b ∉ new ∧ Event.parIrq c b ∉ new ∧ Event.parNmi c b ∉ new ∧ Event.cpuReset c ∉ new := by
  cases d with
  | nothing h => exact ⟨[], by simp [h], by simp⟩
  | failedImage h => exact ⟨_, h, by simp⟩
  | initializer cpu image h => exact ⟨_, h, by simp⟩

end Detached

/-! ## The events of a bus transaction (R247, R251) -/

/-- The cached lines of `v` are those of `u`. -/
def SameLines (u v : Ula) : Prop := v.hirq = u.hirq ∧ v.pirq = u.pirq ∧ v.pnmi = u.pnmi

section LineEvents
variable (c cpu : CpuTypeDescriptor) (level : Bool) {u v w : Ula}

theorem lineEvents_of_sameLines (h : SameLines u v) : lineEvents cpu u v = [] := by
  obtain ⟨h1, h2, h3⟩ := h
  simp [lineEvents, h1, h2, h3]

/-- The events depend on the old state only through its lines. -/
theorem lineEvents_congr (h : SameLines u v) : lineEvents cpu v w = lineEvents cpu u w := by
  obtain ⟨h1, h2, h3⟩ := h
  simp only [lineEvents, h1, h2, h3]

theorem lineEvents_nodup (u v : Ula) : (lineEvents cpu u v).Nodup := by
  unfold lineEvents
  split_ifs <;> simp

theorem lineEvents_append_cpuReset_nodup (u v : Ula) : (lineEvents cpu u v ++ [Event.cpuReset c]).Nodup := by
  rw [← List.concat_eq_append]
  exact (lineEvents_nodup cpu u v).concat (cpuReset_not_mem_lineEvents c cpu u v)

theorem hostIrq_mem_lineEvents : Event.hostIrq level ∈ lineEvents cpu u v ↔ u.hirq ≠ v.hirq ∧ level = v.hirq := by
  simp [lineEvents]

theorem parIrq_mem_lineEvents :
    Event.parIrq c level ∈ lineEvents cpu u v ↔ u.pirq ≠ v.pirq ∧ c = cpu ∧ level = v.pirq := by
  simp [lineEvents]

theorem parNmi_mem_lineEvents :
    Event.parNmi c level ∈ lineEvents cpu u v ↔ u.pnmi ≠ v.pnmi ∧ c = cpu ∧ level = v.pnmi := by
  simp [lineEvents]

end LineEvents

/-- A register operation leaves the cached lines to the recompute that follows it. -/
theorem accessUla_sameLines (n : Nat) (i : Instr) (u : Ula) : SameLines u (accessUla n i u) := by
  cases i with
  | hrD1 => dsimp only [accessUla, takeFifo]; split <;> exact ⟨rfl, rfl, rfl⟩
  | hrD3 => dsimp only [accessUla, takePH3]; split <;> exact ⟨rfl, rfl, rfl⟩
  | prD3 => dsimp only [accessUla, takeHP3]; split <;> exact ⟨rfl, rfl, rfl⟩
  | pwD1 v => dsimp only [accessUla, putFifo]; split <;> exact ⟨rfl, rfl, rfl⟩
  | hwCtlSet m => dsimp only [accessUla, setControl]; split <;> exact ⟨rfl, rfl, rfl⟩
  | hwD3 v => dsimp only [accessUla, putHP3]; split_ifs <;> exact ⟨rfl, rfl, rfl⟩
  | pwD3 v => dsimp only [accessUla, putPH3]; split_ifs <;> exact ⟨rfl, rfl, rfl⟩
  | _ => exact ⟨rfl, rfl, rfl⟩

section BusEvents
variable {i : Instr} {side : Side} {direction : Direction} {a : Selector} {s t : State}

theorem busRead_events {r : Byte × Ula} (h : SameLines s.ula r.2) :
    (busRead r s).events = s.events ++ lineEvents s.cpu s.ula (busRead r s).ula := by
  cases ha : s.att with
  | true => simp only [busRead_of_att r ha, lineEvents_congr s.cpu h]
  | false => simp [busRead_of_detached r ha, lineEvents_self]

theorem busWrite_events {u : Ula} (h : SameLines s.ula u) :
    (busWrite u s).events = s.events ++ lineEvents s.cpu s.ula (busWrite u s).ula := by
  cases ha : s.att with
  | true => simp only [busWrite_of_att u ha, lineEvents_congr s.cpu h]
  | false => simp [busWrite_of_detached u ha, lineEvents_self]

/-- Every bus write is the write frame around its register operation, and a release of the reset-hold adds the call of
`reset()` (R121). -/
theorem exec_write_eq (h : performerOf i = .bus side .write a) (s : State) :
    exec i s = .next (busWrite (accessUla s.params.fifoDepth i s.ula) s) ∨
    (∃ m, i = .hwCtlClr m) ∧
      exec i s = .next ((busWrite (accessUla s.params.fifoDepth i s.ula) s).emit (.cpuReset s.cpu)) := by
  cases i with
  | hwCtlClr m =>
    by_cases hm : ReleasesHold m s
    · exact .inr ⟨⟨m, rfl⟩, exec_hwCtlClr_of_release hm⟩
    · exact .inl (exec_hwCtlClr_of_no_release hm)
  | _ => cases h <;> exact .inl rfl

/-- All the events of a bus transaction: the changes of the lines, then the coprocessor's reset of a release. -/
theorem exec_bus_events (h : performerOf i = .bus side direction a) (e : exec i s = .next t) :
    ∃ last, (last = [] ∨ (∃ m, i = .hwCtlClr m) ∧ last = [.cpuReset s.cpu]) ∧
      t.events = s.events ++ (lineEvents s.cpu s.ula t.ula ++ last) := by
  have hl := accessUla_sameLines s.params.fifoDepth i s.ula
  cases direction with
  | read =>
    obtain ⟨b, eb⟩ := exec_read_eq h s
    obtain rfl := Host.Outcome.next.inj (eb.symm.trans e)
    exact ⟨[], .inl rfl, by rw [List.append_nil]; exact busRead_events hl⟩
  | write =>
    obtain ew | ⟨hclr, ew⟩ := exec_write_eq h s
    · obtain rfl := Host.Outcome.next.inj (ew.symm.trans e)
      exact ⟨[], .inl rfl, by rw [List.append_nil]; exact busWrite_events hl⟩
    · obtain rfl := Host.Outcome.next.inj (ew.symm.trans e)
      exact ⟨_, .inr ⟨hclr, rfl⟩, by rw [emit_events, busWrite_events hl, List.append_assoc]; rfl⟩

end BusEvents

/-! ## Quiet operations (R247) -/

/-- `v` derives the same three levels as `u` (R241 to R243). -/
def SameLevels (u v : Ula) : Prop :=
  hirqLevel v = hirqLevel u ∧ pirqLevel v = pirqLevel u ∧ pnmiLevel v = pnmiLevel u

theorem SameLevels.sameLines {u v : Ula} (h : SameLevels u v) (hu : LinesCurrent u) :
    SameLines u (withDerivedLines v) := by
  obtain ⟨h1, h2, h3⟩ := h
  obtain ⟨hu1, hu2, hu3⟩ := hu
  exact ⟨h1.trans hu1.symm, h2.trans hu2.symm, h3.trans hu3.symm⟩

/-- A bus transaction that changes no level, and is no release of the reset-hold, emits nothing. -/
theorem exec_bus_quiet {i : Instr} {side : Side} {direction : Direction} {a : Selector} {s t : State}
    (e : exec i s = .next t) (h : performerOf i = .bus side direction a) (hclr : ∀ m, i ≠ .hwCtlClr m)
    (hs : StateInv s) (ha : s.att = true) (hlev : SameLevels s.ula (accessUla s.params.fifoDepth i s.ula)) :
    t.events = s.events ∧ t.ula.hirq = s.ula.hirq ∧ t.ula.pirq = s.ula.pirq ∧ t.ula.pnmi = s.ula.pnmi := by
  obtain ⟨-, -, hcur⟩ := hs
  have hu := exec_bus_ula h e
  rw [if_pos ha] at hu
  have hl : SameLines s.ula t.ula := hu ▸ hlev.sameLines (hcur ha)
  obtain ⟨last, hlast, hev⟩ := exec_bus_events h e
  obtain rfl | ⟨⟨m, hm⟩, -⟩ := hlast
  · exact ⟨by rw [hev, lineEvents_of_sameLines _ hl, List.append_nil, List.append_nil], hl⟩
  · exact absurd hm (hclr m)

section SameLevels
variable {u : Ula}

theorem SameLevels.refl (u : Ula) : SameLevels u u := ⟨rfl, rfl, rfl⟩

theorem loadHfl_sameLevels (v : Byte) (u : Ula) : SameLevels u (loadHfl v u) := ⟨rfl, rfl, rfl⟩

theorem loadPfl_sameLevels (v : Byte) (u : Ula) : SameLevels u (loadPfl v u) := ⟨rfl, rfl, rfl⟩

/-- No line is derived from the flags of channel 2. -/
theorem readPH2_sameLevels (u : Ula) : SameLevels u (readPH2 u).2 := ⟨rfl, rfl, rfl⟩

theorem readHP2_sameLevels (u : Ula) : SameLevels u (readHP2 u).2 := ⟨rfl, rfl, rfl⟩

theorem readPH4_sameLevels (h : u.hDA.c4 = false) : SameLevels u (readPH4 u).2 :=
  ⟨by simp [hirqLevel, readPH4, h], rfl, rfl⟩

theorem readHP1_sameLevels (h : u.pDA.c1 = false) : SameLevels u (readHP1 u).2 :=
  ⟨rfl, by simp [pirqLevel, readHP1, h], rfl⟩

theorem readHP4_sameLevels (h : u.pDA.c4 = false) : SameLevels u (readHP4 u).2 :=
  ⟨rfl, by simp [pirqLevel, readHP4, h], rfl⟩

theorem putFifo_sameLevels_of_full {n : Nat} (v : Byte) (h : n ≤ u.ph1.count) :
    SameLevels u (putFifo n v (loadPfl v u)) := by
  rw [putFifo_of_full v (u := loadPfl v u) h]
  exact loadPfl_sameLevels v u

theorem putHP3_sameLevels_of_full (v : Byte) (h : channelWidth u.cr ≤ u.hp3.occ) :
    SameLevels u (putHP3 v (loadHfl v u)) := by
  rw [putHP3_of_full v (u := loadHfl v u) h]
  exact loadHfl_sameLevels v u

theorem putPH3_sameLevels_of_full (v : Byte) (h : channelWidth u.cr ≤ u.ph3.occ) :
    SameLevels u (putPH3 v (loadPfl v u)) := by
  rw [putPH3_of_full v (u := loadPfl v u) h]
  exact loadPfl_sameLevels v u

end SameLevels

/-! ## The rights of the sides (R260) -/

/-- From `u` to `v` the parasite kept to its rights. -/
def ParasiteRights (u v : Ula) : Prop :=
  v.cr = u.cr ∧ v.hfl = u.hfl ∧ v.hp1 = u.hp1 ∧ v.hp2 = u.hp2 ∧ v.hp4 = u.hp4 ∧
  (v.hp3 = u.hp3 ∨ v.hp3 = ⟨u.hp3.slot1, u.hp3.slot1, u.hp3.occ - 1⟩) ∧
  (v.pDA.c1 = true → u.pDA.c1 = true) ∧ (v.pDA.c2 = true → u.pDA.c2 = true) ∧
  (v.pDA.c3 = true → u.pDA.c3 = true) ∧ (v.pDA.c4 = true → u.pDA.c4 = true) ∧
  v.ph1.head = u.ph1.head ∧ u.ph1.count ≤ v.ph1.count ∧ u.ph3.occ ≤ v.ph3.occ ∧
  (u.hDA.c1 = true → v.hDA.c1 = true) ∧ (u.hDA.c2 = true → v.hDA.c2 = true) ∧
  (u.hDA.c3 = true → v.hDA.c3 = true) ∧ (u.hDA.c4 = true → v.hDA.c4 = true)

/-- From `u` to `v` the host kept to its rights, PFL apart. -/
def HostRights (u v : Ula) : Prop :=
  v.ph1.bytes = u.ph1.bytes ∧ v.ph1.tail = u.ph1.tail ∧ v.ph1.count ≤ u.ph1.count ∧ v.ph2 = u.ph2 ∧ v.ph4 = u.ph4 ∧
  (v.ph3 = u.ph3 ∨ v.ph3 = ⟨u.ph3.slot1, u.ph3.slot1, u.ph3.occ - 1⟩) ∧
  (v.hDA.c1 = true → u.hDA.c1 = true) ∧ (v.hDA.c2 = true → u.hDA.c2 = true) ∧
  (v.hDA.c3 = true → u.hDA.c3 = true) ∧ (v.hDA.c4 = true → u.hDA.c4 = true) ∧
  u.hp3.occ ≤ v.hp3.occ ∧
  (u.pDA.c1 = true → v.pDA.c1 = true) ∧ (u.pDA.c2 = true → v.pDA.c2 = true) ∧
  (u.pDA.c3 = true → v.pDA.c3 = true) ∧ (u.pDA.c4 = true → v.pDA.c4 = true)

section ParasiteRights
variable {n : Nat} {u : Ula} (v : Byte)

theorem ParasiteRights.refl (u : Ula) : ParasiteRights u u := by simp [ParasiteRights]

theorem loadPfl_parasiteRights : ParasiteRights u (loadPfl v u) := ParasiteRights.refl u

theorem readHP1_parasiteRights : ParasiteRights u (readHP1 u).2 := by simp [ParasiteRights, readHP1]

theorem readHP2_parasiteRights : ParasiteRights u (readHP2 u).2 := by simp [ParasiteRights, readHP2]

theorem readHP4_parasiteRights : ParasiteRights u (readHP4 u).2 := by simp [ParasiteRights, readHP4]

theorem storePH2_parasiteRights : ParasiteRights u (storePH2 v u) := by simp [ParasiteRights]

theorem storePH4_parasiteRights : ParasiteRights u (storePH4 v u) := by simp [ParasiteRights]

theorem takeHP3_parasiteRights : ParasiteRights u (takeHP3 u).2 := by
  obtain h | h := Nat.eq_zero_or_pos u.hp3.occ
  · rw [takeHP3_of_occ_zero h]
    exact ParasiteRights.refl u
  · simp +contextual [takeHP3_eq_of_occ_pos h, ParasiteRights, shiftPop]

theorem putFifo_parasiteRights : ParasiteRights u (putFifo n v u) := by
  obtain h | h := Nat.lt_or_ge u.ph1.count n
  · simp [putFifo_of_room v h, ParasiteRights, fifoPush]
  · rw [putFifo_of_full v h]
    exact ParasiteRights.refl u

theorem putPH3_parasiteRights : ParasiteRights u (putPH3 v u) := by
  obtain h | h | h := Nat.lt_trichotomy (u.ph3.occ + 1) (channelWidth u.cr)
  · simp [putPH3_of_not_last v h rfl, ParasiteRights]
  · simp [putPH3_of_last v h rfl, ParasiteRights]
  · rw [putPH3_of_full v (by omega)]
    exact ParasiteRights.refl u

end ParasiteRights

theorem accessUla_parasiteRights {i : Instr} (n : Nat) (u : Ula) (h : agentOf i = .parasite) :
    ParasiteRights u (accessUla n i u) := by
  cases i with
  | prD1 => exact readHP1_parasiteRights
  | prD2 => exact readHP2_parasiteRights
  | prD3 => exact takeHP3_parasiteRights
  | prD4 => exact readHP4_parasiteRights
  | pwD1 v => exact putFifo_parasiteRights (u := loadPfl v u) v
  | pwD2 v => exact storePH2_parasiteRights (u := loadPfl v u) v
  | pwD3 v => exact putPH3_parasiteRights (u := loadPfl v u) v
  | pwD4 v => exact storePH4_parasiteRights (u := loadPfl v u) v
  | pwS1 v | pwS2 v | pwS3 v | pwS4 v => exact loadPfl_parasiteRights v
  | prS1 | prS2 | prS3 | prS4 => exact ParasiteRights.refl u
  | _ => cases h

section HostRights
variable {n : Nat} {u : Ula} (v : Byte)

theorem HostRights.refl (u : Ula) : HostRights u u := by simp [HostRights]

theorem loadHfl_hostRights : HostRights u (loadHfl v u) := HostRights.refl u

theorem readPH2_hostRights : HostRights u (readPH2 u).2 := by simp [HostRights, readPH2]

theorem readPH4_hostRights : HostRights u (readPH4 u).2 := by simp [HostRights, readPH4]

theorem storeHP1_hostRights : HostRights u (storeHP1 v u) := by simp [HostRights]

theorem storeHP2_hostRights : HostRights u (storeHP2 v u) := by simp [HostRights]

theorem storeHP4_hostRights : HostRights u (storeHP4 v u) := by simp [HostRights]

theorem clearControl_hostRights (m : ControlBits) : HostRights u (clearControl m u) := HostRights.refl u

theorem setControl_hostRights {m : ControlBits} (h : ¬ (u.cr.getLsbD 6 = false ∧ m.getLsbD 6 = true)) :
    HostRights u (setControl n m u) := by
  rw [setControl_of_no_trigger n h]
  exact HostRights.refl u

theorem takeFifo_hostRights : HostRights u (takeFifo n u).2 := by
  obtain h | h := Nat.eq_zero_or_pos u.ph1.count
  · rw [takeFifo_of_count_zero h]
    exact HostRights.refl u
  · simp +contextual [takeFifo_eq_of_count_pos n h, HostRights, fifoPop]

theorem takePH3_hostRights : HostRights u (takePH3 u).2 := by
  obtain h | h := Nat.eq_zero_or_pos u.ph3.occ
  · rw [takePH3_of_occ_zero h]
    exact HostRights.refl u
  · simp +contextual [takePH3_eq_of_occ_pos h, HostRights, shiftPop]

theorem putHP3_hostRights : HostRights u (putHP3 v u) := by
  obtain h | h | h := Nat.lt_trichotomy (u.hp3.occ + 1) (channelWidth u.cr)
  · simp [putHP3_of_not_last v h, HostRights]
  · simp [putHP3_of_last v h, HostRights]
  · rw [putHP3_of_full v (by omega)]
    exact HostRights.refl u

end HostRights

/-- The soft reset is the one host access that writes what the parasite owns (R281). -/
theorem accessUla_hostRights {i : Instr} (n : Nat) (u : Ula) (h : agentOf i = .host)
    (hset : ∀ m, i = .hwCtlSet m → ¬ (u.cr.getLsbD 6 = false ∧ m.getLsbD 6 = true)) :
    HostRights u (accessUla n i u) := by
  cases i with
  | hrD1 => exact takeFifo_hostRights
  | hrD2 => exact readPH2_hostRights
  | hrD3 => exact takePH3_hostRights
  | hrD4 => exact readPH4_hostRights
  | hwCtlSet m => exact setControl_hostRights (u := loadHfl (controlByte true m) u) (hset m rfl)
  | hwCtlClr m => exact clearControl_hostRights (u := loadHfl (controlByte false m) u) m
  | hwD1 v => exact storeHP1_hostRights (u := loadHfl v u) v
  | hwD2 v => exact storeHP2_hostRights (u := loadHfl v u) v
  | hwD3 v => exact putHP3_hostRights (u := loadHfl v u) v
  | hwD4 v => exact storeHP4_hostRights (u := loadHfl v u) v
  | hwS2 v | hwS3 v | hwS4 v => exact loadHfl_hostRights v
  | hrS1 | hrS2 | hrS3 | hrS4 => exact HostRights.refl u
  | _ => cases h

@[simp] theorem takeFifo_pfl (n : Nat) (u : Ula) : (takeFifo n u).2.pfl = u.pfl := by unfold takeFifo; split <;> rfl
@[simp] theorem takePH3_pfl (u : Ula) : (takePH3 u).2.pfl = u.pfl := by unfold takePH3; split <;> rfl
@[simp] theorem setControl_pfl (n : Nat) (m : ControlBits) (u : Ula) : (setControl n m u).pfl = u.pfl := by
  unfold setControl; split <;> rfl

/-- PFL the host never writes, not even by a soft reset. -/
theorem accessUla_pfl_of_host {i : Instr} (n : Nat) (u : Ula) (h : agentOf i = .host) :
    (accessUla n i u).pfl = u.pfl := by
  cases i with
  | hrD1 => exact takeFifo_pfl n u
  | hrD3 => exact takePH3_pfl u
  | hwCtlSet m => exact setControl_pfl n m _
  | hwD3 v => exact putHP3_pfl v
  | pwS1 | pwS2 | pwS3 | pwS4 | pwD1 | pwD2 | pwD3 | pwD4 | prD3 => cases h
  | _ => rfl

/-- What holds between the registers and themselves, and between them and what their operation and the recompute leave,
holds over every bus transaction, attached or not. -/
theorem exec_bus_rel {i : Instr} {s t : State} {R : Ula → Ula → Prop} (h : agentOf i ≠ .environment)
    (e : exec i s = .next t) (hrefl : R s.ula s.ula)
    (haccess : R s.ula (withDerivedLines (accessUla s.params.fifoDepth i s.ula))) : R s.ula t.ula := by
  obtain ⟨side, direction, a, hp⟩ := performerOf_of_agentOf h
  rw [exec_bus_ula hp e]
  split
  · exact haccess
  · exact hrefl

section Rights
variable {i : Instr} {s t : State}

theorem exec_parasiteRights (h : agentOf i = .parasite) (e : exec i s = .next t) : ParasiteRights s.ula t.ula :=
  exec_bus_rel (by simp [h]) e (.refl _) (accessUla_parasiteRights _ _ h :)

theorem exec_hostRights (h : agentOf i = .host) (e : exec i s = .next t)
    (hset : ∀ m, i = .hwCtlSet m → ¬ (s.ula.cr.getLsbD 6 = false ∧ m.getLsbD 6 = true)) : HostRights s.ula t.ula :=
  exec_bus_rel (by simp [h]) e (.refl _) (accessUla_hostRights _ _ h hset :)

theorem exec_pfl_of_host (h : agentOf i = .host) (e : exec i s = .next t) : t.ula.pfl = s.ula.pfl :=
  exec_bus_rel (R := fun u v => v.pfl = u.pfl) (by simp [h]) e rfl (accessUla_pfl_of_host _ _ h)

/-- SELECT keeps every register, or detaches and drops the lines (R193, R197). -/
theorem execSelect_ula {index : Option Int} (e : execSelect index s = .next t) :
    t.ula = s.ula ∨ t.ula = linesLow s.ula := by
  obtain rfl := Host.Outcome.next.inj e
  split
  · exact .inl rfl
  · exact .inr rfl

end Rights

/-! ## The statements -/

/-- Settles O16, operation by operation: each ends in the recompute, or in a hard reset, where it ends attached. -/
theorem linesAreDerivedAfterEveryRecompute : Obligations.LinesAreDerivedAfterEveryRecompute := by
  intro i s t e ha h
  obtain h | rfl | ⟨fs, ok, rfl⟩ | ⟨tag, aux, block, rfl⟩ := h
  · obtain ⟨side, direction, a, hp⟩ := performerOf_of_agentOf h
    exact exec_bus_linesCurrent hp e ha
  · exact exec_hreset_linesCurrent e ha
  · exact exec_attach_linesCurrent e ha
  · exact exec_load_linesCurrent e ha

/-- Settles O17: the observed lines by their equations, the events by what a detached block can emit. -/
theorem whileDetachedLinesAreLowAndNoSetterIsCalled : Obligations.WhileDetachedLinesAreLowAndNoSetterIsCalled :=
  fun _ =>
    ⟨fun ha => ⟨hostIrqLine_of_att ha, parIrqLine_of_att ha, parNmiLine_of_att ha⟩,
      fun hd => ⟨hostIrqLine_of_detached hd, parIrqLine_of_detached hd, parNmiLine_of_detached hd,
        updateInts_of_detached hd, fun _ _ e => (exec_of_detached hd e).no_setter_call⟩⟩

/-- Settles O18: the events are those of the changed lines, and the call of `reset()` after them is of no line. -/
theorem settersAreCalledExactlyOnChanges : Obligations.SettersAreCalledExactlyOnChanges := by
  intro i s t h e
  obtain ⟨side, direction, a, hp⟩ := performerOf_of_agentOf h
  obtain ⟨last, hlast, hev⟩ := exec_bus_events hp e
  refine ⟨_, hev, ?_⟩
  obtain rfl | ⟨-, rfl⟩ := hlast
  · simp [lineEvents_nodup, hostIrq_mem_lineEvents, parIrq_mem_lineEvents, parNmi_mem_lineEvents]
  · simp [lineEvents_append_cpuReset_nodup, hostIrq_mem_lineEvents, parIrq_mem_lineEvents, parNmi_mem_lineEvents]

/-- Settles O19: each of the operations leaves the levels, so by the invariant the lines. -/
theorem quietOperationsEmitNothing : Obligations.QuietOperationsEmitNothing := by
  intro i s t hs ha e h
  simp only [List.mem_cons, List.not_mem_nil, or_false] at h
  obtain h | ⟨v, h⟩ | ⟨v, rfl, h⟩ | ⟨v, rfl, h⟩ | ⟨v, rfl, h⟩ | ⟨rfl, -⟩ | ⟨rfl, h⟩ | ⟨rfl, h⟩ | ⟨rfl, -⟩ | ⟨rfl, h⟩ := h
  · obtain rfl | rfl | rfl | rfl | rfl | rfl | rfl | rfl := h
    all_goals exact exec_bus_quiet e rfl nofun hs ha (.refl _)
  · obtain rfl | rfl | rfl | rfl | rfl | rfl | rfl := h
    · exact exec_bus_quiet e rfl nofun hs ha (loadHfl_sameLevels v _)
    · exact exec_bus_quiet e rfl nofun hs ha (loadHfl_sameLevels v _)
    · exact exec_bus_quiet e rfl nofun hs ha (loadHfl_sameLevels v _)
    all_goals exact exec_bus_quiet e rfl nofun hs ha (loadPfl_sameLevels v _)
  · exact exec_bus_quiet e rfl nofun hs ha (putFifo_sameLevels_of_full v h.ge)
  · exact exec_bus_quiet e rfl nofun hs ha (putHP3_sameLevels_of_full v h)
  · exact exec_bus_quiet e rfl nofun hs ha (putPH3_sameLevels_of_full v h)
  · exact exec_bus_quiet e rfl nofun hs ha (readPH2_sameLevels _)
  · exact exec_bus_quiet e rfl nofun hs ha (readPH4_sameLevels h)
  · exact exec_bus_quiet e rfl nofun hs ha (readHP1_sameLevels h)
  · exact exec_bus_quiet e rfl nofun hs ha (readHP2_sameLevels _)
  · exact exec_bus_quiet e rfl nofun hs ha (readHP4_sameLevels h)

/-- Settles O21: the rights of each side over its register operations, then the environment's operations that are no
hard reset, load or attach. -/
theorem sidesKeepToTheirRights : Obligations.SidesKeepToTheirRights := by
  intro i s t e
  refine ⟨fun h => exec_parasiteRights h e, fun h => ⟨exec_pfl_of_host h e, exec_hostRights h e⟩, ?_, ?_⟩
  · rintro (⟨source, rfl⟩ | ⟨name, rfl⟩ | ⟨preset, rfl⟩ | rfl)
    · obtain ⟨configs, rfl⟩ := execLoadcfg_next e
      rfl
    all_goals
      obtain rfl := Host.Outcome.next.inj e
      rfl
  · rintro ⟨index, rfl⟩
    obtain hu | hu := execSelect_ula e <;> rw [hu]
    rfl

end Sys2Proof.Machine

/-! PROOFS. Resets and hazards (`70_reset_and_hazards.md`): power-on and the hard reset, the host line raised by the
control write that enables it, and the half-written datum that a change of width strands in HP3. -/

namespace Sys2Proof.Machine

open Sys2Proof.Config

/-! ## The hard reset (R281 to R283, R285) -/

/-- Power-on has nothing left for `ClearChannels()` to clear (R47). -/
theorem cleared_fresh (n : Nat) : Cleared n (Ula.fresh n) (Ula.fresh n) := by
  refine ⟨rfl, rfl, rfl, rfl, rfl, rfl, rfl, rfl, rfl, rfl, rfl, rfl, rfl, rfl, rfl, rfl, rfl, rfl⟩

/-- With every enable clear no line is derived high. -/
theorem linesFrom_of_cr_zero {u : Ula} (h : u.cr = 0#7) : linesFrom u = linesLow u := by
  simp [linesFrom, linesLow, h]

/-- HRESET has the frame of a bus write: the recompute while attached, nothing while detached. -/
theorem exec_hreset_eq (s : State) :
    exec .hreset s = .next (busWrite (clearControlState (clearChannels s.params.fifoDepth s.ula)) s) := by
  rw [exec, execHreset, busWrite, hardReset]
  split <;> rfl

/-! ## Enabling the host interrupt (R295) -/

/-- When the host line rises, its event comes first and is its only one (R251). -/
theorem lineEvents_of_hirq_rise {u v : Ula} (cpu : CpuTypeDescriptor) (hu : u.hirq = false) (hv : v.hirq = true) :
    ∃ more, lineEvents cpu u v = [.hostIrq true] ++ more ∧ ∀ b, Event.hostIrq b ∉ more := by
  refine ⟨(if u.pirq = v.pirq then [] else [.parIrq cpu v.pirq]) ++
    (if u.pnmi = v.pnmi then [] else [.parNmi cpu v.pnmi]), ?_, fun b => ?_⟩
  · simp [lineEvents, hu, hv]
  · split_ifs <;> simp

theorem setControl_hirqLevel {u : Ula} {m : ControlBits} (n : Nat) (hQ : m.getLsbD 0 = true) (hda : u.hDA.c4 = true)
    (hT : ¬ (u.cr.getLsbD 6 = false ∧ m.getLsbD 6 = true)) : hirqLevel (setControl n m u) = true := by
  rw [setControl_of_no_trigger n hT]
  simp [hirqLevel, crQ, hQ, hda]

/-! ## A stranded datum (R292) -/

/-- From `s` to `t` events were only appended, and none of them is a rise of the NMI line. -/
def EmitsNoNmiRise (s t : State) : Prop :=
  ∃ new, t.events = s.events ++ new ∧ ∀ c, Event.parNmi c true ∉ new

theorem EmitsNoNmiRise.refl (s : State) : EmitsNoNmiRise s s := ⟨[], by simp, by simp⟩

theorem EmitsNoNmiRise.trans {s t r : State} (h : EmitsNoNmiRise s t) (h' : EmitsNoNmiRise t r) :
    EmitsNoNmiRise s r := by
  obtain ⟨new, hnew, hn⟩ := h
  obtain ⟨new', hnew', hn'⟩ := h'
  exact ⟨new ++ new', by rw [hnew', hnew, List.append_assoc], fun c => by simp [hn c, hn' c]⟩

/-- HP3 holds `b`, one byte of a two-byte datum, at the one-byte width: space is flagged and there is none. -/
structure StrandedHP3 (b : ShiftBuffer) (u : Ula) : Prop where
  oneByte : crV u.cr = false
  buffer_eq : u.hp3 = b
  half : b.occ = 1
  noData : u.pDA.c3 = false
  space : u.hSA.c3 = true

/-- An attached block with a stranded datum and the NMI line low. -/
structure Stranded (b : ShiftBuffer) (s : State) : Prop where
  attached : s.att = true
  hp3 : StrandedHP3 b s.ula
  nmi_low : s.ula.pnmi = false

section StrandedDatum
variable {b : ShiftBuffer} {s : State}

theorem StrandedHP3.pnmiLevel_eq {u : Ula} (h : StrandedHP3 b u) : pnmiLevel u = false := by
  simp [pnmiLevel, h.noData]

theorem StrandedHP3.occ_eq {u : Ula} (h : StrandedHP3 b u) : u.hp3.occ = 1 := by
  rw [h.buffer_eq, h.half]

/-- A write at the one-byte width finds the buffer full (R126), and loading HFL reaches nothing of channel 3. -/
theorem StrandedHP3.putHP3 {u : Ula} (h : StrandedHP3 b u) (v : Byte) : StrandedHP3 b (putHP3 v (loadHfl v u)) := by
  have hfull : channelWidth u.cr ≤ u.hp3.occ := by rw [channelWidth_of_oneByte h.oneByte, h.occ_eq]
  rw [putHP3_of_full (u := loadHfl v u) v hfull]
  exact ⟨h.oneByte, h.buffer_eq, h.half, h.noData, h.space⟩

/-- An attached write that leaves a stranded datum: with P_DA[3] clear the NMI line is low after the recompute. -/
theorem StrandedHP3.busWrite {u : Ula} (h : StrandedHP3 b u) (ha : s.att = true) (hl : SameLines s.ula u) :
    (busWrite u s).result = .nothing ∧ Stranded b (busWrite u s) ∧ EmitsNoNmiRise s (busWrite u s) := by
  have hlow := h.pnmiLevel_eq
  refine ⟨by rw [busWrite_of_att u ha], ?_, _, busWrite_events hl, fun c => ?_⟩
  · rw [busWrite_of_att u ha]
    exact ⟨ha, ⟨h.oneByte, h.buffer_eq, h.half, h.noData, h.space⟩, hlow⟩
  · simp [parNmi_mem_lineEvents, busWrite_of_att u ha, hlow]

/-- Clearing V over one byte of a two-byte datum strands it. -/
theorem exec_clear_width_strands (ha : s.att = true) (hocc : s.ula.hp3.occ = 1) (hda : s.ula.pDA.c3 = false)
    (hsa : s.ula.hSA.c3 = true) :
    ∃ t, exec (.hwCtlClr 0x10#7) s = .next t ∧ t.result = .nothing ∧ Stranded s.ula.hp3 t ∧ EmitsNoNmiRise s t := by
  have hP : ¬ ReleasesHold 0x10#7 s := fun ⟨_, _, h⟩ => absurd h (by decide)
  have hV : crV (s.ula.cr &&& ~~~0x10#7) = false := by simp [crV]
  have h : StrandedHP3 s.ula.hp3 (clearControl 0x10#7 (loadHfl (controlByte false 0x10#7) s.ula)) :=
    ⟨hV, rfl, hocc, hda, hsa⟩
  exact ⟨_, exec_hwCtlClr_of_no_release hP, h.busWrite ha ⟨rfl, rfl, rfl⟩⟩

theorem Stranded.write (h : Stranded b s) (v : Byte) :
    ∃ t, exec (.hwD3 v) s = .next t ∧ t.result = .nothing ∧ Stranded b t ∧ EmitsNoNmiRise s t :=
  ⟨_, rfl, (h.hp3.putHP3 v).busWrite h.attached (accessUla_sameLines s.params.fifoDepth (.hwD3 v) s.ula)⟩

theorem Stranded.run_writes (h : Stranded b s) (bytes : List Byte) :
    ∃ t, runOps (bytes.map Instr.hwD3) s = some (List.replicate bytes.length Result.nothing, t) ∧
      Stranded b t ∧ EmitsNoNmiRise s t := by
  induction bytes generalizing s with
  | nil => exact ⟨s, rfl, h, .refl s⟩
  | cons v bytes ih =>
    obtain ⟨t, e, hresult, ht, hemit⟩ := h.write v
    obtain ⟨r, hrun, hr, hemit'⟩ := ih ht
    have hall := runOps_cons e hrun
    rw [hresult] at hall
    exact ⟨r, hall, hr, hemit.trans hemit'⟩

/-- A parasite read returns the stranded byte and empties the buffer (R156). -/
theorem Stranded.read (h : Stranded b s) :
    ∃ r, exec .prD3 s = .next r ∧ r.result = .byte b.slot0 ∧ r.ula.hp3.occ = 0 := by
  have hocc := h.hp3.occ_eq
  obtain ⟨hbyte, hbuf, -⟩ := takeHP3_of_occ_pos (u := s.ula) (by omega)
  refine ⟨_, rfl, ?_⟩
  rw [busRead_of_att _ h.attached]
  exact ⟨by rw [hbyte, h.hp3.buffer_eq], by simp [hbuf, shiftPop, hocc]⟩

end StrandedDatum

/-! ## The statements -/

/-- Settles O39: HRESET is the write frame around the hard reset's clears, and CR at 0 derives every line at 0. -/
theorem hresetIsAHardResetWhileAttached : Obligations.HresetIsAHardResetWhileAttached := by
  intro s
  refine ⟨fun ha => ?_, fun hd => by rw [exec_hreset_eq, busWrite_of_detached _ hd]⟩
  obtain ⟨t, e, heffect⟩ := exec_write_effect ha (exec_hreset_eq s) rfl rfl rfl rfl
  have ⟨_, _, hula, _⟩ := heffect
  have hlow := hula.trans (linesFrom_of_cr_zero rfl)
  have hlines : t.ula.hirq = false ∧ t.ula.pirq = false ∧ t.ula.pnmi = false := by
    rw [hlow]
    exact ⟨rfl, rfl, rfl⟩
  exact ⟨t, _, e, cleared_clearChannels _ (clearControlState s.ula), heffect, hlines⟩

/-- Settles O55: clearing V strands the datum, every later write is dropped, and the read pops it. -/
theorem clearingWidthStrandsAHalfWrittenDatum : Obligations.ClearingWidthStrandsAHalfWrittenDatum := by
  intro s bytes _ ha _ hocc hda hsa
  obtain ⟨w, e, hresult, hw, hemit⟩ := exec_clear_width_strands ha hocc hda hsa
  obtain ⟨t, hrun, ht, hemit'⟩ := hw.run_writes bytes
  have hall := runOps_cons e hrun
  rw [hresult] at hall
  obtain ⟨new, hnew, hrise⟩ := hemit.trans hemit'
  exact ⟨t, new, hall, hnew, hrise, ht.hp3.buffer_eq, ht.hp3.noData, ht.hp3.space, ht.nmi_low, ht.read⟩

/-- Settles O56: by the invariant Q clear means the line is low, and the recompute of the write that sets Q raises it. -/
theorem enablingOverPendingDataInterruptsAtOnce : Obligations.EnablingOverPendingDataInterruptsAtOnce := by
  intro s m hs ha hda hQ hm hT
  obtain ⟨-, -, hcurrent⟩ := hs
  obtain ⟨hline, -⟩ := hcurrent ha
  have hlow : s.ula.hirq = false := by rw [hline, hQ, Bool.false_and]
  have hno : ¬ (s.ula.cr.getLsbD 6 = false ∧ m.getLsbD 6 = true) := by
    rintro ⟨hT0, hmT⟩
    rw [hT0, hmT] at hT
    simp at hT
  obtain ⟨t, e⟩ : ∃ t, exec (.hwCtlSet m) s = .next t := ⟨_, rfl⟩
  have hrise : t.ula.hirq = true := by
    rw [exec_bus_ula rfl e, if_pos ha]
    exact setControl_hirqLevel (u := loadHfl (controlByte true m) s.ula) _ hm hda hno
  obtain ⟨more, hlines, hmore⟩ := lineEvents_of_hirq_rise s.cpu hlow hrise
  obtain ⟨last, rfl | ⟨⟨k, hk⟩, -⟩, hevents⟩ := exec_bus_events rfl e
  · exact ⟨hlow, t, more, e, hrise, by rw [hevents, hlines, List.append_nil, List.append_assoc], hmore⟩
  · cases hk

/-- Settles O14: the registers are those of R47, and a detached block answers every read with `IDLE`. -/
theorem powerOnIsDetached : Obligations.PowerOnIsDetached :=
  ⟨rfl, rfl, rfl, rfl, rfl, cleared_fresh 24, rfl, rfl, rfl, fun _ _ _ h => ⟨_, exec_read_of_detached h rfl, rfl⟩⟩

end Sys2Proof.Machine
